-- ==== Sys2Proof/Word.lean ====
section
/-! DEFINITION. The word types of MBCRC: the 32-bit command and response words and the octets of a frame. -/

namespace Sys2Proof

/-- An octet: the unit of both buffers, of the line and of every byte operand (20_memory.md R60, R65). -/
abbrev Octet := BitVec 8

/-- A 32-bit word of the command port and of `rsp_data` (30_encoding.md R80, R90). -/
abbrev Word := BitVec 32

/-- A CRC-16/MODBUS value (40_checksum.md R110). -/
abbrev Crc := BitVec 16

end Sys2Proof
end

