-- ==== Sys2Proof/Syntax.lean ====
section
/-! DEFINITION. The commands of MBCRC: one constructor per row of spec/opcode_table.json (30_encoding.md R86), the
mnemonics of those rows, the register names READ knows (10_state.md R49), and the reasons a word is illegal (R88). -/

namespace Sys2Proof

/-- The fourteen commands with their operands (30_encoding.md R81 to R86). -/
inductive Instr where
  | nop
  | crcInit
  | crcUpdate (b : Octet)
  | crcRead
  | setStation (a : Octet)
  | setBaud (w : BitVec 24)
  | setMode (m : Bool)
  | txBegin (fc : Octet)
  | txData (b : Octet)
  | txSend
  | close
  | read (r : Octet)
  | readTx (i : Octet)
  | readRx (i : Octet)
  deriving DecidableEq, Repr

/-- The mnemonics of the opcode map (30_encoding.md R86). -/
inductive Mnemonic where
  | NOP | CRC_INIT | CRC_UPDATE | CRC_READ
  | SET_STATION | SET_BAUD | SET_MODE
  | TX_BEGIN | TX_DATA | TX_SEND
  | CLOSE
  | READ | READ_TX | READ_RX
  deriving DecidableEq, Repr

/-- The row of the opcode map an instruction belongs to. -/
def Instr.mnemonic : Instr → Mnemonic
  | .nop => .NOP
  | .crcInit => .CRC_INIT
  | .crcUpdate _ => .CRC_UPDATE
  | .crcRead => .CRC_READ
  | .setStation _ => .SET_STATION
  | .setBaud _ => .SET_BAUD
  | .setMode _ => .SET_MODE
  | .txBegin _ => .TX_BEGIN
  | .txData _ => .TX_DATA
  | .txSend => .TX_SEND
  | .close => .CLOSE
  | .read _ => .READ
  | .readTx _ => .READ_TX
  | .readRx _ => .READ_RX

/-- The registers READ names (10_state.md R49). -/
inductive RegName where
  | STATUS | STATION | BAUD | MODE | TXLEN | TXCRC | PREDLEN | CHARCNT
  | CHARDELAY | FRAMEDELAY | DELAY_LO | DELAY_HI | RXLEN | FRAMELEN | RXCRC
  deriving DecidableEq, Repr

/-- Why a command word is illegal (30_encoding.md R88). The host sees the one code ILLEGAL for all three. -/
inductive Illegal where
  /-- The opcode is not in the opcode map. -/
  | undefinedOpcode (op : Octet)
  /-- A must-be-zero bit of the argument is not zero. -/
  | nonzeroArgument
  /-- READ of a register number above 0x0E. -/
  | registerNumber (r : Octet)
  deriving DecidableEq, Repr

end Sys2Proof
end

