-- ==== Sys2Proof/WellFormed.lean ====
section
/-! DEFINITION. Which instructions have a command word: every operand fits its field by its type, and READ names a
register (30_encoding.md R86, R87). -/

namespace Sys2Proof

/-- The instructions that some legal command word stands for: a READ names a register 0x00 to 0x0E. -/
def Instr.wellFormed : Instr → Bool
  | .read r => decide (r ≤ 0x0E#8)
  | .nop | .crcInit | .crcUpdate _ | .crcRead => true
  | .setStation _ | .setBaud _ | .setMode _ => true
  | .txBegin _ | .txData _ | .txSend | .close => true
  | .readTx _ | .readRx _ => true

end Sys2Proof
end

