-- ==== Sys2Proof/Decode.lean ====
section
/-! DEFINITION. Decoding a command word, total on every word and refusing by name (30_encoding.md R80 to R88); after it
the encoder, and the opcode map of R86 as rows of match and mask. -/

namespace Sys2Proof

/-- The opcode `OP = cmd[31:24]` (R80). -/
def opField (w : Word) : Octet := w.extractLsb' 24 8

/-- The argument `ARG = cmd[23:0]` (R80). -/
def argField (w : Word) : BitVec 24 := w.extractLsb' 0 24

/-- Format Z: the whole argument must be zero (R81). -/
def formatZ (arg : BitVec 24) (i : Instr) : Except Illegal Instr :=
  if arg = 0#24 then .ok i else .error .nonzeroArgument

/-- Format B: `ARG[23:8]` must be zero and `ARG[7:0]` is the operand (R82). -/
def formatB (arg : BitVec 24) (mk : Octet → Instr) : Except Illegal Instr :=
  if arg.extractLsb' 8 16 = 0#16 then .ok (mk (arg.extractLsb' 0 8)) else .error .nonzeroArgument

/-- Format W: the argument is the operand, every value legal (R83). -/
def formatW (arg : BitVec 24) (mk : BitVec 24 → Instr) : Except Illegal Instr :=
  .ok (mk arg)

/-- Format M: `ARG[23:1]` must be zero and `ARG[0]` is the flag (R84). -/
def formatM (arg : BitVec 24) (mk : Bool → Instr) : Except Illegal Instr :=
  if arg.extractLsb' 1 23 = 0#23 then .ok (mk (arg.getLsbD 0)) else .error .nonzeroArgument

/-- READ is a format B word whose register number is at most 0x0E (R86, R87). -/
def formatRead (arg : BitVec 24) : Except Illegal Instr :=
  if arg.extractLsb' 8 16 = 0#16 then
    if arg.extractLsb' 0 8 ≤ 0x0E#8 then .ok (.read (arg.extractLsb' 0 8))
    else .error (.registerNumber (arg.extractLsb' 0 8))
  else .error .nonzeroArgument

/-- The decoder, by the opcode column of R86. A word it refuses is ILLEGAL (R87, R88). -/
def decode (w : Word) : Except Illegal Instr :=
  match opField w with
  | 0x00#8 => formatZ (argField w) .nop
  | 0x01#8 => formatZ (argField w) .crcInit
  | 0x02#8 => formatB (argField w) .crcUpdate
  | 0x03#8 => formatZ (argField w) .crcRead
  | 0x10#8 => formatB (argField w) .setStation
  | 0x11#8 => formatW (argField w) .setBaud
  | 0x12#8 => formatM (argField w) .setMode
  | 0x20#8 => formatB (argField w) .txBegin
  | 0x21#8 => formatB (argField w) .txData
  | 0x22#8 => formatZ (argField w) .txSend
  | 0x30#8 => formatZ (argField w) .close
  | 0x40#8 => formatRead (argField w)
  | 0x41#8 => formatB (argField w) .readTx
  | 0x42#8 => formatB (argField w) .readRx
  | op => .error (.undefinedOpcode op)

/-- The opcode of a mnemonic (R86). -/
def Mnemonic.opcode : Mnemonic → Octet
  | .NOP => 0x00#8
  | .CRC_INIT => 0x01#8
  | .CRC_UPDATE => 0x02#8
  | .CRC_READ => 0x03#8
  | .SET_STATION => 0x10#8
  | .SET_BAUD => 0x11#8
  | .SET_MODE => 0x12#8
  | .TX_BEGIN => 0x20#8
  | .TX_DATA => 0x21#8
  | .TX_SEND => 0x22#8
  | .CLOSE => 0x30#8
  | .READ => 0x40#8
  | .READ_TX => 0x41#8
  | .READ_RX => 0x42#8

/-- The argument of an instruction: its operand zero-extended to 24 bits (R81 to R85). -/
def Instr.arg : Instr → BitVec 24
  | .nop | .crcInit | .crcRead | .txSend | .close => 0#24
  | .crcUpdate b | .txData b => b.setWidth 24
  | .setStation a => a.setWidth 24
  | .setBaud w => w
  | .setMode m => (BitVec.ofBool m).setWidth 24
  | .txBegin fc => fc.setWidth 24
  | .read r => r.setWidth 24
  | .readTx i | .readRx i => i.setWidth 24

/-- The encoder: the opcode above the argument (R80, R86). -/
def encode (i : Instr) : Word := i.mnemonic.opcode ++ i.arg

/-- A row of the opcode map: a word selects it when `cmd & mask = match` (R86). -/
structure OpcodeRow where
  mnemonic : Mnemonic
  pattern  : Word
  mask     : Word
  deriving DecidableEq, Repr

/-- The match and mask table of R86. -/
def opcodeTable : List OpcodeRow :=
  [ ⟨.NOP,         0x00000000#32, 0xFFFFFFFF#32⟩
  , ⟨.CRC_INIT,    0x01000000#32, 0xFFFFFFFF#32⟩
  , ⟨.CRC_UPDATE,  0x02000000#32, 0xFFFFFF00#32⟩
  , ⟨.CRC_READ,    0x03000000#32, 0xFFFFFFFF#32⟩
  , ⟨.SET_STATION, 0x10000000#32, 0xFFFFFF00#32⟩
  , ⟨.SET_BAUD,    0x11000000#32, 0xFF000000#32⟩
  , ⟨.SET_MODE,    0x12000000#32, 0xFFFFFFFE#32⟩
  , ⟨.TX_BEGIN,    0x20000000#32, 0xFFFFFF00#32⟩
  , ⟨.TX_DATA,     0x21000000#32, 0xFFFFFF00#32⟩
  , ⟨.TX_SEND,     0x22000000#32, 0xFFFFFFFF#32⟩
  , ⟨.CLOSE,       0x30000000#32, 0xFFFFFFFF#32⟩
  , ⟨.READ,        0x40000000#32, 0xFFFFFF00#32⟩
  , ⟨.READ_TX,     0x41000000#32, 0xFFFFFF00#32⟩
  , ⟨.READ_RX,     0x42000000#32, 0xFFFFFF00#32⟩ ]

/-- A word selects a row, READ with its extra condition `cmd[7:0] <= 0x0E` (R87). -/
def OpcodeRow.selects (r : OpcodeRow) (w : Word) : Bool :=
  decide (w &&& r.mask = r.pattern) &&
    (decide (r.mnemonic ≠ .READ) || decide (w.extractLsb' 0 8 ≤ 0x0E#8))

/-- The loop of R87 over the rows of R86: the first row the word selects, none for ILLEGAL. -/
def selectRow (w : Word) : Option Mnemonic :=
  (opcodeTable.find? (·.selects w)).map (·.mnemonic)

/-- The number of a register READ names, and back (10_state.md R49). -/
def RegName.number : RegName → Octet
  | .STATUS => 0x00#8
  | .STATION => 0x01#8
  | .BAUD => 0x02#8
  | .MODE => 0x03#8
  | .TXLEN => 0x04#8
  | .TXCRC => 0x05#8
  | .PREDLEN => 0x06#8
  | .CHARCNT => 0x07#8
  | .CHARDELAY => 0x08#8
  | .FRAMEDELAY => 0x09#8
  | .DELAY_LO => 0x0A#8
  | .DELAY_HI => 0x0B#8
  | .RXLEN => 0x0C#8
  | .FRAMELEN => 0x0D#8
  | .RXCRC => 0x0E#8

def RegName.ofNumber (r : Octet) : Option RegName :=
  match r with
  | 0x00#8 => some .STATUS
  | 0x01#8 => some .STATION
  | 0x02#8 => some .BAUD
  | 0x03#8 => some .MODE
  | 0x04#8 => some .TXLEN
  | 0x05#8 => some .TXCRC
  | 0x06#8 => some .PREDLEN
  | 0x07#8 => some .CHARCNT
  | 0x08#8 => some .CHARDELAY
  | 0x09#8 => some .FRAMEDELAY
  | 0x0A#8 => some .DELAY_LO
  | 0x0B#8 => some .DELAY_HI
  | 0x0C#8 => some .RXLEN
  | 0x0D#8 => some .FRAMELEN
  | 0x0E#8 => some .RXCRC
  | _ => none

/-- The command word whose bits, numbered as spec/opcode_table.json numbers them, are `w`; the bits above `nbits` are zero.
A command is one parallel 32-bit word with no byte order (20_memory.md R64), bit 0 its least significant bit (00_scope.md R11). -/
def tableWord (nbits w : Nat) : Word := BitVec.ofNat 32 (w % 2 ^ nbits)

/-- The instruction the decoder reads from a word of the opcode table. -/
def decodeTableWord (nbits w : Nat) : Option Instr :=
  match decode (tableWord nbits w) with
  | .ok i => some i
  | .error _ => none

end Sys2Proof
end

