-- ==== Sys2Proof/Config.lean ====
section
/-! DEFINITION. The fixed parameters of MBCRC (00_scope.md R9). The parameters 00_scope.md R10 leaves open are not
constants here: LINE_RX_SOURCE and WINDOW_TIMING are the input list of State (log 1), and no rule reads CMD_PORT_MAPPING
(log 13). -/

namespace Sys2Proof.Config

/-- The reflected CRC polynomial (R9; 40_checksum.md R110). -/
abbrev crcPoly : Crc := 0xA001#16

/-- The CRC initial value (R9; 40_checksum.md R110). -/
abbrev crcInit : Crc := 0xFFFF#16

/-- The size of each buffer in octets, which is the largest ADU (R9). -/
abbrev bufSize : Nat := 256

/-- TXLEN when 252 data octets are present: no further TX_DATA fits (41_frame_codec.md R132). -/
abbrev txLenFull : Nat := 254

/-- The shortest ADU (R9). -/
abbrev aduMin : Nat := 4

/-- The octets of an exception frame (41_frame_codec.md R140 (e)). -/
abbrev exceptionFrameLen : Nat := 5

/-- The value of RXLEN that records an overflow (10_state.md R46). -/
abbrev rxOverflow : Nat := 257

/-- Above this rate the delays are fixed (R9; 42_timing.md R152). -/
abbrev baudThreshold : Nat := 19200

/-- The fixed character and frame delays in microseconds (R9; 42_timing.md R152). -/
abbrev fixedCharDelay : Nat := 750
abbrev fixedFrameDelay : Nat := 1750

/-- The numerators of the rate-dependent delays (R9; 42_timing.md R152). -/
abbrev charDelayNum : Nat := 15000000
abbrev frameDelayNum : Nat := 35000000

/-- What a buffer octet that nothing has written reads as. DESIGN CHOICE, unsafe (log 4): the spec leaves it
unspecified and lets a model fix it to 0x00 (93_implementation_defined.md U1, U2). -/
abbrev unwrittenOctet : Octet := 0x00#8

end Sys2Proof.Config
end

