-- ==== Sys2Proof/Machine/Checksum.lean ====
section
/-! DEFINITION. The CRC-16/MODBUS function, used by CRCGEN and by FSYNC alike (40_checksum.md R110 to R112, R119). -/

namespace Sys2Proof.Machine

/-- One of the "8 shifts" of an octet: test bit 0, shift right, and XOR the polynomial when the bit was 1 (40_checksum.md
R111). UNVERIFIED: the spec marks this loop body as taken from general knowledge (log 10). -/
def crcShift (c : Crc) : Crc :=
  if c.getLsbD 0 then (c >>> 1) ^^^ Config.crcPoly else c >>> 1

/-- `crc16_step(c, b)`: XOR the octet into the low byte, then eight shifts (40_checksum.md R111). -/
def crc16Step (c : Crc) (b : Octet) : Crc :=
  Nat.repeat crcShift 8 (c ^^^ b.setWidth 16)

/-- `crc16(s)`: the fold of `crc16_step` from the initial value, with no final XOR (40_checksum.md R110, R112; log 10). -/
def crc16 (s : List Octet) : Crc := s.foldl crc16Step Config.crcInit

/-- The octets of a CRC in wire order: low octet first, then high octet (20_memory.md R61). -/
def crcLo (c : Crc) : Octet := c.extractLsb' 0 8
def crcHi (c : Crc) : Octet := c.extractLsb' 8 8
def crcOctets (c : Crc) : List Octet := [crcLo c, crcHi c]

end Sys2Proof.Machine
end

