-- ==== Sys2Proof/Machine/State.lean ====
section
/-! DEFINITION. The state of MBCRC as plain data: every register of 10_state.md R32, the two octet buffers, the line output,
the response port, and the model's own list of inputs; the state after reset; and the reasons a step can stop. -/

namespace Sys2Proof.Machine

/-- FSYNC's exchange state STATE (10_state.md R34). Value 3 is reserved and never entered (log 15). -/
inductive Phase where
  | idle
  | assemble
  | rxwait
  deriving DecidableEq, Repr

/-- The exchange outcome RESULT (10_state.md R39). Values 8 to 15 are reserved and never written (log 15). -/
inductive Result where
  | none
  | ok
  | noResponse
  | unexpectedData
  | responseTooShort
  | stationMismatch
  | checksumMismatch
  | protocolException
  deriving DecidableEq, Repr

/-- The codes a command is answered with (60_exceptions.md R210). -/
inductive RspCode where
  | ok
  | illegal
  | stateErr
  | frameTooLarge
  | alreadyClosed
  | channelClosed
  | badIndex
  deriving DecidableEq, Repr

/-- One response on the response port: `rsp_code[7:0]` and `rsp_data[31:0]` (30_encoding.md R90). -/
structure Response where
  code : Octet
  data : Word
  deriving DecidableEq, Repr

/-- What an agent can do in one step (00_scope.md R16, 70_reset_and_hazards.md R245). -/
inductive Input where
  /-- The host issues a command word (20_memory.md R70). -/
  | command (w : Word)
  /-- The line delivers an octet: LINE_RX(b) (43_transport.md R177). -/
  | lineRx (b : Octet)
  /-- The window timer fires: WINDOW_CLOSE (43_transport.md R178). -/
  | windowClose
  /-- The reset input is asserted: RESET (70_reset_and_hazards.md R240). -/
  | reset
  deriving DecidableEq, Repr

/-- The contents of an octet buffer: pairs of index and octet in canonical form (`Memory.wf`): indices below 256, strictly
rising, none listed with the octet an unlisted index reads as (20_memory.md R60). -/
abbrev Memory := List Host.Cell

/-- The state of one MBCRC. The fields are the registers of 10_state.md R32 under their names there, TXBUF and RXBUF
(R41, R45), LINE_OUT (R53), the responses returned so far (30_encoding.md R90, log 8), and what the agents do next
(the model's own field, log 1). -/
@[ext]
structure State where
  crc        : Crc
  state      : Phase
  closed     : Bool
  result     : Result
  exc        : Octet
  station    : Octet
  baud       : BitVec 24
  ccFcMult   : Bool
  txlen      : BitVec 9
  txcrc      : Crc
  predlen    : BitVec 18
  charcnt    : BitVec 32
  chardelay  : BitVec 32
  framedelay : BitVec 32
  delay      : BitVec 64
  rxlen      : BitVec 9
  framelen   : BitVec 9
  rxcrc      : Crc
  txbuf      : Memory
  rxbuf      : Memory
  lineOut    : List Octet
  rspOut     : List Response
  inputs     : List Input
  deriving DecidableEq, Repr

/-- The power-on state: the values RESET gives with LINE_OUT empty (70_reset_and_hazards.md R240, R241; 10_state.md R32). The
buffers list nothing (DESIGN CHOICE, log 4), no response has been returned (DESIGN CHOICE, log 8), and no input is pending
(DESIGN CHOICE, log 9). -/
def State.reset : State where
  crc        := 0xFFFF#16
  state      := .idle
  closed     := false
  result     := .none
  exc        := 0x00#8
  station    := 0x00#8
  baud       := 0#24
  ccFcMult   := false
  txlen      := 0#9
  txcrc      := 0xFFFF#16
  predlen    := 0#18
  charcnt    := 0#32
  chardelay  := 0#32
  framedelay := 0#32
  delay      := 0#64
  rxlen      := 0#9
  framelen   := 0#9
  rxcrc      := 0xFFFF#16
  txbuf      := []
  rxbuf      := []
  lineOut    := []
  rspOut     := []
  inputs     := []

/-- Why a step stops. -/
inductive Fault where
  /-- Raised by `windowClose`: the input list holds a WINDOW_CLOSE while STATE is not RXWAIT, where the event "has no step"
  (43_transport.md R178). Safe: the model stops where the spec has no behaviour (log 3). -/
  | windowCloseNotEnabled
  /-- Raised by `execTxData` and `execTxSend`: the command would store at a TXBUF index of 256 or above, which does not exist
  (20_memory.md R60). Only states that no run reaches raise it (10_state.md R55). Safe (log 7). -/
  | noSuchOctet
  deriving DecidableEq, Repr

/-- Why an instruction has no meaning. -/
inductive Refusal where
  /-- Raised by an arm of `exec` whose instruction has no meaning yet; no arm of this model raises it. Safe. -/
  | notModelled (mnemonic : String)
  deriving DecidableEq, Repr

/-- The outcome of one step of MBCRC. -/
abbrev Outcome := Host.Outcome State Fault Refusal

end Sys2Proof.Machine
end

