-- ==== Sys2Proof/Machine/Ops.lean ====
section
/-! DEFINITION. The operations every meaning is built from: reading and writing one octet of a buffer, answering a command, and
rejecting one (the one shared form of MBCRC's exceptions, 60_exceptions.md R210, R216). There is no return from an exception
(60_exceptions.md R217). -/

namespace Sys2Proof.Machine

/-- The octet at an index of a buffer; an index not listed reads as `Config.unwrittenOctet` (20_memory.md R60; log 4). -/
def Memory.read : Memory → Nat → Octet
  | [], _ => Config.unwrittenOctet
  | (k, x) :: m, a =>
    if a < k then Config.unwrittenOctet else if a = k then x else Memory.read m a

/-- Writing one octet, keeping the canonical form: the octet an unlisted index reads as is not listed. -/
def Memory.write : Memory → Nat → Octet → Memory
  | [], a, v => if v = Config.unwrittenOctet then [] else [(a, v)]
  | (k, x) :: m, a, v =>
    if a < k then
      if v = Config.unwrittenOctet then (k, x) :: m else (a, v) :: (k, x) :: m
    else if a = k then
      if v = Config.unwrittenOctet then m else (a, v) :: m
    else (k, x) :: Memory.write m a v

/-- The canonical form above a bound: every index at least `lo` and below 256, indices strictly rising, no octet listed that an
unlisted index reads as. -/
def Memory.wfFrom : Nat → Memory → Bool
  | _, [] => true
  | lo, (k, x) :: m =>
    decide (lo ≤ k) && decide (k < Config.bufSize) && decide (x ≠ Config.unwrittenOctet) &&
      Memory.wfFrom (k + 1) m

/-- The canonical form of a buffer. -/
def Memory.wf (m : Memory) : Bool := Memory.wfFrom 0 m

/-- The subsequence `s[a..b)` of a buffer in index order (00_scope.md R12, 20_memory.md R63). -/
def Memory.octets (m : Memory) (a b : Nat) : List Octet :=
  (List.range' a (b - a)).map m.read

/-- The value of a response code on the port (60_exceptions.md R210). -/
def RspCode.toOctet : RspCode → Octet
  | .ok => 0x00#8
  | .illegal => 0x01#8
  | .stateErr => 0x02#8
  | .frameTooLarge => 0x03#8
  | .alreadyClosed => 0x04#8
  | .channelClosed => 0x05#8
  | .badIndex => 0x06#8

/-- `respond(code, data)`: ends the command with one response (00_scope.md R13, 30_encoding.md R90). -/
def State.respond (s : State) (code : RspCode) (data : Word) : State :=
  { s with rspOut := s.rspOut ++ [⟨code.toOctet, data⟩] }

/-- `raise Reject(code)`: the shared form of every rejection. It answers the code with data 0 and writes nothing else
(00_scope.md R13; 60_exceptions.md R210, R216). -/
def State.reject (s : State) (code : RspCode) : State := s.respond code 0#32

/-- `TXBUF[i] <- b` and `RXBUF[i] <- b` (00_scope.md R13). -/
def State.storeTx (s : State) (i : Nat) (b : Octet) : State := { s with txbuf := s.txbuf.write i b }
def State.storeRx (s : State) (i : Nat) (b : Octet) : State := { s with rxbuf := s.rxbuf.write i b }

/-- `emit(octets)`: appends to LINE_OUT (00_scope.md R13, 10_state.md R53). -/
def State.emit (s : State) (octets : List Octet) : State := { s with lineOut := s.lineOut ++ octets }

/-- The octets of TXBUF that are defined: `TXBUF[0..TXLEN)` (10_state.md R41). -/
def State.txFrame (s : State) : List Octet := s.txbuf.octets 0 s.txlen.toNat

/-- How many octets RXBUF holds: `min(RXLEN, 256)` (10_state.md R45). -/
def State.rxCount (s : State) : Nat := min s.rxlen.toNat Config.bufSize

/-- The octets of RXBUF that are defined: `RXBUF[0..min(RXLEN, 256))` (10_state.md R45). -/
def State.rxFrame (s : State) : List Octet := s.rxbuf.octets 0 s.rxCount

end Sys2Proof.Machine
end

