-- ==== Sys2Proof/Machine/Flags.lean ====
section
/-! DEFINITION. The status fields of MBCRC: the values of STATE and RESULT, the STATUS word, the block's outputs, and the names
of the outcome values (10_state.md R34, R39, R50, R54; 60_exceptions.md R213, R215). MBCRC has no condition codes (R51). -/

namespace Sys2Proof.Machine

/-- The value of STATE (10_state.md R34). -/
def Phase.code : Phase → BitVec 2
  | .idle => 0#2
  | .assemble => 1#2
  | .rxwait => 2#2

/-- The value of RESULT (10_state.md R39). -/
def Result.code : Result → BitVec 4
  | .none => 0#4
  | .ok => 1#4
  | .noResponse => 2#4
  | .unexpectedData => 3#4
  | .responseTooShort => 4#4
  | .stationMismatch => 5#4
  | .checksumMismatch => 6#4
  | .protocolException => 7#4

/-- The STATUS word: EXC in 23:16, RESULT in 11:8, CLOSED in 2, STATE in 1:0, every other bit 0 (10_state.md R50). -/
def State.statusWord (s : State) : Word :=
  (s.exc.setWidth 32 <<< 16) ||| (s.result.code.setWidth 32 <<< 8) |||
    ((BitVec.ofBool s.closed).setWidth 32 <<< 2) ||| s.state.code.setWidth 32

/-- The output `win_open`: the receive window is open (10_state.md R54). -/
def State.winOpen (s : State) : Bool := decide (s.state = .rxwait)

/-- The output `win_delay`, which the external window timer reads (10_state.md R54; 42_timing.md R156). -/
def State.winDelay (s : State) : BitVec 64 := s.delay

/-- The Modbus exception codes of the wire format, by their §6 names (60_exceptions.md R213). -/
inductive ModbusException where
  | illegalFunction
  | illegalDataAddress
  | illegalDataValue
  | serverDeviceFailure
  | acknowledge
  | serverDeviceBusy
  | memoryParityError
  | gatewayPathUnavailable
  | gatewayTargetFailedToRespond
  deriving DecidableEq, Repr

/-- The name of an exception octet, none for a code outside the set; EXC stores the octet either way (60_exceptions.md R213;
10_state.md R40). -/
def ModbusException.ofOctet (e : Octet) : Option ModbusException :=
  match e with
  | 0x01#8 => some .illegalFunction
  | 0x02#8 => some .illegalDataAddress
  | 0x03#8 => some .illegalDataValue
  | 0x04#8 => some .serverDeviceFailure
  | 0x05#8 => some .acknowledge
  | 0x06#8 => some .serverDeviceBusy
  | 0x08#8 => some .memoryParityError
  | 0x0A#8 => some .gatewayPathUnavailable
  | 0x0B#8 => some .gatewayTargetFailedToRespond
  | _ => none

/-- The source's error kinds that MBCRC reports (60_exceptions.md R215). -/
inductive ErrorKind where
  | frameTooLarge
  | checksumMismatch
  | responseTooShort
  | stationMismatch
  | noResponse
  | unexpectedData
  | protocolException (functionCode exceptionCode : Octet)
  | alreadyClosed
  deriving DecidableEq, Repr

/-- The error kind a response code stands for (60_exceptions.md R210, R215): the codes the spec decided itself have none. -/
def RspCode.errorKind : RspCode → Option ErrorKind
  | .frameTooLarge => some .frameTooLarge
  | .alreadyClosed => some .alreadyClosed
  | .ok | .illegal | .stateErr | .channelClosed | .badIndex => none

/-- The error kind the last exchange ended with (60_exceptions.md R215): for a protocol exception the function code is what
READ_RX 1 returns and the exception code is EXC. -/
def State.errorKind (s : State) : Option ErrorKind :=
  match s.result with
  | .none | .ok => Option.none
  | .noResponse => some .noResponse
  | .unexpectedData => some .unexpectedData
  | .responseTooShort => some .responseTooShort
  | .stationMismatch => some .stationMismatch
  | .checksumMismatch => some .checksumMismatch
  | .protocolException => some (.protocolException (s.rxbuf.read 1) s.exc)

end Sys2Proof.Machine
end

