-- ==== Sys2Proof/Machine/Operands.lean ====
section
/-! DEFINITION. What an operand names and how a result is put on the response port: register numbers (10_state.md R49), buffer
indices (20_memory.md R60), and zero extension to 32 bits (00_scope.md R13). -/

namespace Sys2Proof.Machine

/-- `zext_32(v)`: every value on `rsp_data` is zero-extended (00_scope.md R13; 30_encoding.md R85). -/
def zext32 {n : Nat} (v : BitVec n) : Word := v.setWidth 32

/-- The buffer index an octet operand names (20_memory.md R60). -/
def bufIndex (i : Octet) : Nat := i.toNat

/-- `regval(r)`: the 32-bit read value of each register (10_state.md R49, R50; MODE has the one bit CC_FC_MULT, R38). -/
def State.regval (s : State) : RegName → Word
  | .STATUS => s.statusWord
  | .STATION => zext32 s.station
  | .BAUD => zext32 s.baud
  | .MODE => zext32 (BitVec.ofBool s.ccFcMult)
  | .TXLEN => zext32 s.txlen
  | .TXCRC => zext32 s.txcrc
  | .PREDLEN => zext32 s.predlen
  | .CHARCNT => s.charcnt
  | .CHARDELAY => s.chardelay
  | .FRAMEDELAY => s.framedelay
  | .DELAY_LO => s.delay.extractLsb' 0 32
  | .DELAY_HI => s.delay.extractLsb' 32 32
  | .RXLEN => zext32 s.rxlen
  | .FRAMELEN => zext32 s.framelen
  | .RXCRC => zext32 s.rxcrc

end Sys2Proof.Machine
end

