-- ==== Sys2Proof/Machine/Control.lean ====
section
/-! DEFINITION. Configuration and read-out: NOP, SET_STATION, SET_BAUD, SET_MODE, READ, READ_TX, READ_RX (44_control.md R190 to R197),
and the answer to an illegal word (60_exceptions.md R211). -/

namespace Sys2Proof.Machine

/-- NOP: do nothing but answer (44_control.md R190). -/
def execNop (s : State) : Outcome := .next (s.respond .ok 0#32)

/-- SET_STATION a: every value is stored (44_control.md R191). -/
def execSetStation (a : Octet) (s : State) : Outcome :=
  .next ({ s with station := a }.respond .ok 0#32)

/-- SET_BAUD w: 0 means unset (44_control.md R192). -/
def execSetBaud (w : BitVec 24) (s : State) : Outcome :=
  .next ({ s with baud := w }.respond .ok 0#32)

/-- SET_MODE m: select the character-count formula (44_control.md R193). -/
def execSetMode (m : Bool) (s : State) : Outcome :=
  .next ({ s with ccFcMult := m }.respond .ok 0#32)

/-- READ r: answer a register. A register number above 0x0E is ILLEGAL (44_control.md R195); the decoder refuses such a word before
it gets here (log 16). -/
def execRead (r : Octet) (s : State) : Outcome :=
  match RegName.ofNumber r with
  | some name => .next (s.respond .ok (s.regval name))
  | none => .next (s.reject .illegal)

/-- READ_TX i: answer one octet of the request ADU (44_control.md R196). -/
def execReadTx (i : Octet) (s : State) : Outcome :=
  if s.txlen.toNat ≤ bufIndex i then .next (s.reject .badIndex)
  else .next (s.respond .ok (zext32 (s.txbuf.read (bufIndex i))))

/-- READ_RX i: answer one of the received octets, outside RXWAIT only (44_control.md R197). -/
def execReadRx (i : Octet) (s : State) : Outcome :=
  if s.state = .rxwait then .next (s.reject .stateErr)
  else if s.rxCount ≤ bufIndex i then .next (s.reject .badIndex)
  else .next (s.respond .ok (zext32 (s.rxbuf.read (bufIndex i))))

/-- A word that does not decode is answered ILLEGAL and changes nothing else, whatever the reason (60_exceptions.md R211;
30_encoding.md R87, R88). -/
def answerIllegal (_why : Illegal) (s : State) : Outcome := .next (s.reject .illegal)

end Sys2Proof.Machine
end

