-- ==== Sys2Proof/Machine/Crcgen.lean ====
section
/-! DEFINITION. The commands of the stand-alone checksum unit CRCGEN (40_checksum.md R113 to R115). None is refused for state. -/

namespace Sys2Proof.Machine

/-- CRC_INIT: restart the checksum (40_checksum.md R113). -/
def execCrcInit (s : State) : Outcome :=
  .next ({ s with crc := Config.crcInit }.respond .ok 0#32)

/-- CRC_UPDATE b: fold one octet into the checksum (40_checksum.md R114). -/
def execCrcUpdate (b : Octet) (s : State) : Outcome :=
  .next ({ s with crc := crc16Step s.crc b }.respond .ok 0#32)

/-- CRC_READ: answer the checksum (40_checksum.md R115). -/
def execCrcRead (s : State) : Outcome :=
  .next (s.respond .ok (zext32 s.crc))

end Sys2Proof.Machine
end

