-- ==== Sys2Proof/Machine/FrameCodec.lean ====
section
/-! DEFINITION. Assembling a request ADU, TX_BEGIN and TX_DATA (41_frame_codec.md R131, R132), and the check of a response that
WINDOW_CLOSE runs (R140). -/

namespace Sys2Proof.Machine

/-- Start a frame: station, function code, their CRC, and STATE to ASSEMBLE (41_frame_codec.md R131). TXBUF octets from index 2
on keep what they held, which is unspecified (log 5). -/
def State.beginFrame (s : State) (fc : Octet) : State :=
  { (s.storeTx 0 s.station).storeTx 1 fc with
    txlen := 2#9
    txcrc := crc16 [s.station, fc]
    state := .assemble }

/-- Append one octet to the frame (41_frame_codec.md R132). -/
def State.appendData (s : State) (b : Octet) : State :=
  { s.storeTx s.txlen.toNat b with
    txlen := s.txlen + 1#9
    txcrc := crc16Step s.txcrc b }

/-- Discard the frame, as FRAME_TOO_LARGE does (41_frame_codec.md R132). -/
def State.discardFrame (s : State) : State :=
  { s with txlen := 0#9, txcrc := Config.crcInit, state := .idle }

/-- TX_BEGIN fc: start a request ADU with the current station address (41_frame_codec.md R131). -/
def execTxBegin (fc : Octet) (s : State) : Outcome :=
  if s.state = .rxwait then .next (s.reject .stateErr)
  else .next ((s.beginFrame fc).respond .ok 0#32)

/-- TX_DATA b: append one data octet, or refuse the 253rd and discard the frame (41_frame_codec.md R132). An index of 256 or above
does not exist: in the states no run reaches where TXLEN names one the step stops (20_memory.md R60, log 7). -/
def execTxData (b : Octet) (s : State) : Outcome :=
  if s.state ≠ .assemble then .next (s.reject .stateErr)
  else if s.txlen.toNat = Config.txLenFull then .next (s.discardFrame.respond .frameTooLarge 0#32)
  else if Config.bufSize ≤ s.txlen.toNat then .fault .noSuchOctet
  else .next ((s.appendData b).respond .ok 0#32)

/-- How the received octets start: `ECHO` of the function code, or the exception pattern `EXCF` (41_frame_codec.md R140). -/
inductive FrameClass where
  | echo
  | excf
  deriving DecidableEq, Repr

/-- What the first part of `check_response` finds: a frame of a class and a length `L`, or a failure with its EXC. -/
inductive Classified where
  | frame (cls : FrameClass) (len : Nat)
  | failed (res : Result) (exc : Octet)
  deriving DecidableEq, Repr

/-- Branches (a) to (f) of `check_response`: identify the response frame from RXLEN, RXBUF[1] and TXBUF[1]
(41_frame_codec.md R140). -/
def State.classify (s : State) : Classified :=
  let n := s.rxlen.toNat
  if n = 0 then .failed .noResponse 0x0B#8
  else if Config.bufSize < n then .failed .unexpectedData 0x00#8
  else if n < 2 then .failed .unexpectedData 0x00#8
  else if s.rxbuf.read 1 = s.txbuf.read 1 then .frame .echo n
  else if s.rxbuf.read 1 = s.txbuf.read 1 ||| 0x80#8 then .frame .excf (min n Config.exceptionFrameLen)
  else .failed .unexpectedData 0x00#8

/-- The result of `check_response`: `(res, exc, L, rxcrc)` (41_frame_codec.md R140). -/
structure CheckResult where
  res   : Result
  exc   : Octet
  len   : Nat
  rxcrc : Crc
  deriving DecidableEq, Repr

/-- Branches (g) to (k) of `check_response` on a frame of length `L`: length, station, checksum, then exception
(41_frame_codec.md R140). -/
def State.verdict (s : State) (cls : FrameClass) (len : Nat) : Result × Octet :=
  let c := crc16 (s.rxbuf.octets 0 (len - 2))
  if len < Config.aduMin then (.responseTooShort, 0x00#8)
  else if s.rxbuf.read 0 ≠ s.txbuf.read 0 then (.stationMismatch, 0x00#8)
  else if s.rxbuf.read (len - 2) ≠ crcLo c ∨ s.rxbuf.read (len - 1) ≠ crcHi c then
    (.checksumMismatch, 0x00#8)
  else
    match cls with
    | .excf =>
      (.protocolException, if Config.exceptionFrameLen ≤ len then s.rxbuf.read 2 else 0x00#8)
    | .echo => (.ok, 0x00#8)

/-- `check_response()` (41_frame_codec.md R140). On natural numbers `len - 2` is `max(L - 2, 0)`. -/
def State.checkResponse (s : State) : CheckResult :=
  match s.classify with
  | .failed res exc => ⟨res, exc, 0, crc16 []⟩
  | .frame cls len =>
    ⟨(s.verdict cls len).1, (s.verdict cls len).2, len, crc16 (s.rxbuf.octets 0 (len - 2))⟩

end Sys2Proof.Machine
end

