-- ==== Sys2Proof/Machine/Timing.lean ====
section
/-! DEFINITION. The timing model that TX_SEND evaluates (42_timing.md R150 to R155), on exact natural numbers (00_scope.md R12). -/

namespace Sys2Proof.Machine

/-- `oct(i)`: octet `i` of the request ADU, 0x00 at or beyond TXLEN (42_timing.md R151). -/
def State.aduOctet (s : State) (i : Nat) : Octet :=
  if i < s.txlen.toNat then s.txbuf.read i else 0x00#8

/-- The requested quantity: octets 4 and 5 of the ADU as a big-endian count (42_timing.md R151, 20_memory.md R62). -/
def State.quantity (s : State) : Nat := (s.aduOctet 4).toNat * 256 + (s.aduOctet 5).toNat

/-- `ceil(a / b)` (00_scope.md R12). -/
def ceilDiv (a b : Nat) : Nat := (a + b - 1) / b

/-- The predicted response length of a function code and a quantity (42_timing.md R151). -/
def predictedLen (fc : Octet) (count : Nat) : Nat :=
  match fc with
  | 0x01#8 => 4 + 1 + ceilDiv count 8
  | 0x02#8 => 4 + 1 + ceilDiv count 8
  | 0x03#8 => 4 + 1 + count * 2
  | 0x04#8 => 4 + 1 + count * 2
  | 0x05#8 => 4 + 4
  | 0x06#8 => 4 + 4
  | 0x0F#8 => 4 + 4
  | 0x10#8 => 4 + 4
  | _ => 4

/-- `pred_len()` (42_timing.md R151). -/
def State.predLen (s : State) : Nat := predictedLen (s.txbuf.read 1) s.quantity

/-- `char_frame_delay()`: the character and frame delays in microseconds; BAUD 0 is "unset" (42_timing.md R152). -/
def charFrameDelay (baud : BitVec 24) : Nat × Nat :=
  if baud = 0#24 ∨ Config.baudThreshold < baud.toNat then
    (Config.fixedCharDelay, Config.fixedFrameDelay)
  else (Config.charDelayNum / baud.toNat, Config.frameDelayNum / baud.toNat)

/-- `char_count(pl)`: multiplied by the function code when MODE.CC_FC_MULT is set (42_timing.md R153). -/
def State.charCount (s : State) (pl : Nat) : Nat :=
  if s.ccFcMult then (s.txlen.toNat + pl) * (s.txbuf.read 1).toNat else s.txlen.toNat + pl

/-- `delay(cc, cd, fd)` in microseconds (42_timing.md R154). -/
def totalDelay (cc cd fd : Nat) : Nat := cd * cc + fd

/-- `timing_update()`: the five timing registers, from the complete ADU (42_timing.md R155). Each register holds its value exactly
(10_state.md R44). -/
def State.timingUpdate (s : State) : State :=
  { s with
    predlen    := BitVec.ofNat 18 s.predLen
    charcnt    := BitVec.ofNat 32 (s.charCount s.predLen)
    chardelay  := BitVec.ofNat 32 (charFrameDelay s.baud).1
    framedelay := BitVec.ofNat 32 (charFrameDelay s.baud).2
    delay      := BitVec.ofNat 64
      (totalDelay (s.charCount s.predLen) (charFrameDelay s.baud).1 (charFrameDelay s.baud).2) }

end Sys2Proof.Machine
end

