-- ==== Sys2Proof/Machine/Transport.lean ====
section
/-! DEFINITION. The exchange: TX_SEND and CLOSE (43_transport.md R174, R175) and the events LINE_RX, WINDOW_CLOSE (R177, R178) and
RESET (70_reset_and_hazards.md R240). -/

namespace Sys2Proof.Machine

/-- Append the CRC to the frame, low octet first (43_transport.md R174, 20_memory.md R61). -/
def State.appendCrc (s : State) : State :=
  { (s.storeTx s.txlen.toNat (crcLo s.txcrc)).storeTx (s.txlen.toNat + 1) (crcHi s.txcrc) with
    txlen := s.txlen + 2#9 }

/-- Open the receive window: clear the receive side and the outcome, STATE to RXWAIT (43_transport.md R174). RXBUF keeps what it
held, which is unspecified once RXLEN is 0 (log 5). -/
def State.openWindow (s : State) : State :=
  { s with
    rxlen    := 0#9
    framelen := 0#9
    rxcrc    := Config.crcInit
    result   := .none
    exc      := 0x00#8
    state    := .rxwait }

/-- What an accepted TX_SEND does, in the order of 43_transport.md R174: append the CRC, compute the timing, transmit the whole ADU,
open the window. -/
def State.transmit (s : State) : State :=
  let framed := s.appendCrc.timingUpdate
  (framed.emit framed.txFrame).openWindow

/-- TX_SEND: finish the ADU, transmit it and open the receive window (43_transport.md R174). The CRC octets go to indices TXLEN and
TXLEN + 1: in the states no run reaches where these are not both below 256 the step stops (20_memory.md R60, log 7). -/
def execTxSend (s : State) : Outcome :=
  if s.state ≠ .assemble then .next (s.reject .stateErr)
  else if s.closed then .next (s.reject .channelClosed)
  else if Config.bufSize < s.txlen.toNat + 2 then .fault .noSuchOctet
  else .next (s.transmit.respond .ok 0#32)

/-- CLOSE: release the serial channel (43_transport.md R175). -/
def execClose (s : State) : Outcome :=
  if s.closed then .next (s.reject .alreadyClosed)
  else if s.state = .rxwait then .next (s.reject .stateErr)
  else .next ({ s with closed := true }.respond .ok 0#32)

/-- LINE_RX(b): the line delivers one octet; it is kept in RXWAIT only, and RXLEN saturates at 257 (43_transport.md R177). -/
def lineRx (b : Octet) (s : State) : State :=
  if s.state = .rxwait then
    if s.rxlen.toNat < Config.bufSize then
      { s.storeRx s.rxlen.toNat b with rxlen := s.rxlen + 1#9 }
    else { s with rxlen := BitVec.ofNat 9 Config.rxOverflow }
  else s

/-- Record the outcome of the exchange and return to IDLE (43_transport.md R178). -/
def State.closeWindow (s : State) : State :=
  { s with
    result   := s.checkResponse.res
    exc      := s.checkResponse.exc
    framelen := BitVec.ofNat 9 s.checkResponse.len
    rxcrc    := s.checkResponse.rxcrc
    state    := .idle }

/-- WINDOW_CLOSE: the receive window ends and the response is classified. It is enabled only in RXWAIT; elsewhere it "has no step"
(43_transport.md R178, log 3). -/
def windowClose (s : State) : Outcome :=
  if s.state = .rxwait then .next s.closeWindow else .fault .windowCloseNotEnabled

/-- RESET: every register to its reset value; LINE_OUT stays (70_reset_and_hazards.md R240). The buffer contents are unspecified
after it: this model empties both (DESIGN CHOICE, log 6). The responses already returned and the inputs to come are not the
block's registers and stay (log 8). -/
def resetEvent (s : State) : State :=
  { s with
    crc        := 0xFFFF#16
    state      := .idle
    closed     := false
    result     := .none
    exc        := 0x00#8
    station    := 0x00#8
    baud       := 0#24
    ccFcMult   := false
    txlen      := 0#9
    txcrc      := 0xFFFF#16
    predlen    := 0#18
    charcnt    := 0#32
    chardelay  := 0#32
    framedelay := 0#32
    delay      := 0#64
    rxlen      := 0#9
    framelen   := 0#9
    rxcrc      := 0xFFFF#16
    txbuf      := []
    rxbuf      := [] }

end Sys2Proof.Machine
end

