-- ==== Sys2Proof/Machine/Dispatch.lean ====
section
/-! DEFINITION. The one dispatch from an instruction to its meaning, an arm per constructor (30_encoding.md R86). -/

namespace Sys2Proof.Machine

def exec (i : Instr) (s : State) : Host.Outcome State Fault Refusal :=
  match i with
  | .nop => Sys2Proof.Machine.execNop s
  | .crcInit => Sys2Proof.Machine.execCrcInit s
  | .crcUpdate b => Sys2Proof.Machine.execCrcUpdate b s
  | .crcRead => Sys2Proof.Machine.execCrcRead s
  | .setStation a => Sys2Proof.Machine.execSetStation a s
  | .setBaud w => Sys2Proof.Machine.execSetBaud w s
  | .setMode m => Sys2Proof.Machine.execSetMode m s
  | .txBegin fc => Sys2Proof.Machine.execTxBegin fc s
  | .txData b => Sys2Proof.Machine.execTxData b s
  | .txSend => Sys2Proof.Machine.execTxSend s
  | .close => Sys2Proof.Machine.execClose s
  | .read r => Sys2Proof.Machine.execRead r s
  | .readTx k => Sys2Proof.Machine.execReadTx k s
  | .readRx k => Sys2Proof.Machine.execReadRx k s

end Sys2Proof.Machine
end

