-- ==== Sys2Proof/Machine/Step.lean ====
section
/-! DEFINITION. One step of MBCRC: the next input of the list is one atomic command or event (00_scope.md R14, R16;
20_memory.md R66, R71). -/

namespace Sys2Proof.Machine

/-- One command word: decoded first, before any state is read, then run or answered ILLEGAL (30_encoding.md R87;
60_exceptions.md R211). -/
def runCommand (w : Word) (s : State) : Host.Outcome State Fault Refusal :=
  match decode w with
  | .ok i => exec i s
  | .error why => answerIllegal why s

/-- The step of one input. -/
def runInput (i : Input) (s : State) : Host.Outcome State Fault Refusal :=
  match i with
  | .command w => runCommand w s
  | .lineRx b => .next (lineRx b s)
  | .windowClose => windowClose s
  | .reset => .next (resetEvent s)

/-- One step: take the next input off the list and run it. With no input pending no agent steps and all state is kept
(00_scope.md R16, 60_exceptions.md R224; DEDUCED, log 2). -/
def step (s : State) : Host.Outcome State Fault Refusal :=
  match s.inputs with
  | [] => .next s
  | i :: rest => runInput i { s with inputs := rest }

/-- The state with a command word as the very next input: MBCRC fetches nothing, the host delivers each word on the command port
(10_state.md R31, 20_memory.md R70; log 9). -/
def State.withFetchWord (s : State) (nbits w : Nat) : State :=
  { s with inputs := .command (tableWord nbits w) :: s.inputs }

end Sys2Proof.Machine
end

