-- ==== Sys2Proof/Machine/Assembler.lean ====
section
/-! DEFINITION. The assembler syntax and the pseudo-instructions (30_encoding.md R92, R93). A program text is a list of lines, each a
list of characters; an assembly error is `none`. What R92 leaves open about a line's surface is log 12. -/

namespace Sys2Proof.Asm

/-- `TX_FRAME fc, d0, ..., d(k-1)` (30_encoding.md R93). -/
def txFrame (fc : Octet) (data : List Octet) : List Instr :=
  .txBegin fc :: data.map .txData ++ [.txSend]

/-- `CRC_BLOCK b0, ..., b(k-1)` (30_encoding.md R93). -/
def crcBlock (octets : List Octet) : List Instr :=
  .crcInit :: octets.map .crcUpdate ++ [.crcRead]

/-- `READ_DELAY` (30_encoding.md R93). -/
def readDelay : List Instr :=
  [.read RegName.DELAY_LO.number, .read RegName.DELAY_HI.number]

/-- The formats of a command word (30_encoding.md R81 to R84). -/
inductive Format where
  | Z
  | B
  | W
  | M
  deriving DecidableEq, Repr

/-- The format of a mnemonic (30_encoding.md R86). -/
def format : Mnemonic → Format
  | .NOP | .CRC_INIT | .CRC_READ | .TX_SEND | .CLOSE => .Z
  | .CRC_UPDATE | .SET_STATION | .TX_BEGIN | .TX_DATA | .READ | .READ_TX | .READ_RX => .B
  | .SET_BAUD => .W
  | .SET_MODE => .M

/-- The largest operand of a format, none for no operand (30_encoding.md R92). -/
def Format.limit : Format → Option Nat
  | .Z => none
  | .B => some 255
  | .W => some 16777215
  | .M => some 1

/-- `word = (OP << 24) | operand`; an operand outside its field's range, a missing one or one too many is an error
(30_encoding.md R92). -/
def assembleWord (m : Mnemonic) (operand : Option Nat) : Option Word :=
  match (format m).limit, operand with
  | none, none => some (m.opcode.setWidth 32 <<< 24)
  | some top, some v =>
    if v ≤ top then some (m.opcode.setWidth 32 <<< 24 ||| BitVec.ofNat 32 v) else none
  | _, _ => none

/-- The mnemonics by name (30_encoding.md R86). -/
def mnemonicNames : List (String × Mnemonic) :=
  [ ("NOP", .NOP), ("CRC_INIT", .CRC_INIT), ("CRC_UPDATE", .CRC_UPDATE), ("CRC_READ", .CRC_READ)
  , ("SET_STATION", .SET_STATION), ("SET_BAUD", .SET_BAUD), ("SET_MODE", .SET_MODE)
  , ("TX_BEGIN", .TX_BEGIN), ("TX_DATA", .TX_DATA), ("TX_SEND", .TX_SEND), ("CLOSE", .CLOSE)
  , ("READ", .READ), ("READ_TX", .READ_TX), ("READ_RX", .READ_RX) ]

/-- The registers by name (10_state.md R49). -/
def registerNames : List (String × RegName) :=
  [ ("STATUS", .STATUS), ("STATION", .STATION), ("BAUD", .BAUD), ("MODE", .MODE), ("TXLEN", .TXLEN)
  , ("TXCRC", .TXCRC), ("PREDLEN", .PREDLEN), ("CHARCNT", .CHARCNT), ("CHARDELAY", .CHARDELAY)
  , ("FRAMEDELAY", .FRAMEDELAY), ("DELAY_LO", .DELAY_LO), ("DELAY_HI", .DELAY_HI), ("RXLEN", .RXLEN)
  , ("FRAMELEN", .FRAMELEN), ("RXCRC", .RXCRC) ]

/-- The entry under a name. -/
def lookup {α : Type} (names : List (String × α)) (token : List Char) : Option α :=
  (names.find? fun e => decide (e.1.toList = token)).map (·.2)

/-- A digit of a base, none for any other character. Hexadecimal digits may be capital or small (log 12). -/
def digit (base : Nat) (c : Char) : Option Nat :=
  let n := c.toNat
  let v :=
    if 48 ≤ n ∧ n ≤ 57 then n - 48
    else if 65 ≤ n ∧ n ≤ 70 then n - 55
    else if 97 ≤ n ∧ n ≤ 102 then n - 87
    else base
  if v < base then some v else none

/-- The number a run of digits stands for; the empty run is no number. -/
def digits (base : Nat) (cs : List Char) : Option Nat :=
  match cs with
  | [] => none
  | _ => cs.foldl (fun acc c => acc.bind fun n => (digit base c).map fun d => n * base + d) (some 0)

/-- An operand: decimal, or hexadecimal with a `0x` prefix (30_encoding.md R92). -/
def number (token : List Char) : Option Nat :=
  match token with
  | '0' :: 'x' :: cs => digits 16 cs
  | cs => digits 10 cs

/-- The operand of a mnemonic: READ may also name a register (30_encoding.md R92). -/
def operandValue (m : Mnemonic) (token : List Char) : Option Nat :=
  match m, lookup registerNames token with
  | .READ, some r => some r.number.toNat
  | _, _ => number token

def isBlank (c : Char) : Bool := c = ' ' || c = '\t'

/-- Drops blanks at both ends. -/
def trim (cs : List Char) : List Char :=
  ((cs.dropWhile isBlank).reverse.dropWhile isBlank).reverse

/-- The parts of a text between commas. -/
def splitCommas : List Char → List (List Char)
  | [] => [[]]
  | c :: cs =>
    match splitCommas cs with
    | [] => [[c]]
    | part :: parts => if c = ',' then [] :: part :: parts else (c :: part) :: parts

/-- The operands of a line: none for an empty text, else the trimmed parts between commas. -/
def operandTokens (cs : List Char) : List (List Char) :=
  match trim cs with
  | [] => []
  | text => (splitCommas text).map trim

/-- An operand of a pseudo-instruction: an octet. -/
def octetOperand (token : List Char) : Option Octet :=
  (number token).bind fun n => if n ≤ 255 then some (BitVec.ofNat 8 n) else none

/-- One command: `MNEMONIC` or `MNEMONIC operand` (30_encoding.md R92). -/
def assembleCommand (m : Mnemonic) (operands : List (List Char)) : Option (List Word) :=
  match operands with
  | [] => (assembleWord m none).map fun w => [w]
  | [token] =>
    (operandValue m token).bind fun v => (assembleWord m (some v)).map fun w => [w]
  | _ => none

/-- A pseudo-instruction's words (30_encoding.md R93); none for any other name. -/
def assemblePseudo (name : List Char) (operands : List (List Char)) : Option (List Word) :=
  if name = "TX_FRAME".toList then
    match operands.mapM octetOperand with
    | some (fc :: data) => some ((txFrame fc data).map encode)
    | _ => none
  else if name = "CRC_BLOCK".toList then
    (operands.mapM octetOperand).map fun bs => (crcBlock bs).map encode
  else if name = "READ_DELAY".toList then
    match operands with
    | [] => some (readDelay.map encode)
    | _ => none
  else none

/-- One line: a comment starts at `;`, an empty line gives no word (30_encoding.md R92, log 12). -/
def assembleLine (line : List Char) : Option (List Word) :=
  let text := trim (line.takeWhile fun c => c ≠ ';')
  match text with
  | [] => some []
  | _ =>
    let name := text.takeWhile fun c => !isBlank c
    let operands := operandTokens (text.dropWhile fun c => !isBlank c)
    match lookup mnemonicNames name with
    | some m => assembleCommand m operands
    | none => assemblePseudo name operands

/-- A program: the words of its lines in order, one command per line (30_encoding.md R92). DESIGN CHOICE (log 17): a program with an
assembly error on any line gives no words at all. R92 says only that the line in error gives no word. -/
def assemble (lines : List (List Char)) : Option (List Word) :=
  (lines.mapM assembleLine).map List.flatten

end Sys2Proof.Asm
end

