-- ==== Sys2Proof/Safety.lean ====
section
/-! DEFINITION. What claims about MBCRC speak of: the invariants every step keeps (10_state.md R55 and the register ranges), the
part of a state a program can observe, the observation and the end of a run (70_reset_and_hazards.md R257), which input may write
which register (10_state.md R32), and which command is accepted in which state (60_exceptions.md R214). -/

namespace Sys2Proof.Machine

/-! ### Invariants -/

/-- Both buffers are in canonical form. -/
structure State.BuffersCanonical (s : State) : Prop where
  tx : s.txbuf.wf = true
  rx : s.rxbuf.wf = true

/-- The invariants of 10_state.md R55, item by item. -/
structure State.ExchangeInv (s : State) : Prop where
  /-- Item 1. -/
  assembleLen : s.state = .assemble → 2 ≤ s.txlen.toNat ∧ s.txlen.toNat ≤ 254
  assembleCrc : s.state = .assemble → s.txcrc = crc16 (s.txbuf.octets 0 s.txlen.toNat)
  /-- Item 2. -/
  rxwaitLen : s.state = .rxwait → 4 ≤ s.txlen.toNat ∧ s.txlen.toNat ≤ 256
  rxwaitOpen : s.state = .rxwait → s.closed = false
  rxwaitResult : s.state = .rxwait → s.result = .none
  rxwaitCrc : s.state = .rxwait → s.txcrc = crc16 (s.txbuf.octets 0 (s.txlen.toNat - 2))
  rxwaitLo : s.state = .rxwait → s.txbuf.read (s.txlen.toNat - 2) = s.txcrc.extractLsb' 0 8
  rxwaitHi : s.state = .rxwait → s.txbuf.read (s.txlen.toNat - 1) = s.txcrc.extractLsb' 8 8
  /-- Item 3. -/
  closedNoWindow : s.closed = true → s.state ≠ .rxwait
  /-- Item 4. -/
  rxlenBound : s.rxlen.toNat ≤ 257
  framelenBound : s.framelen.toNat ≤ 256
  framelenRxlen : s.framelen.toNat ≤ s.rxlen.toNat

/-- What the registers say about the last exchange outside a frame under assembly: the length and CRC of the request kept in
TXBUF (10_state.md R42, R43), the CRC of the checked response (R48), the exception octet (R40), and the receive registers of an
open window (70_reset_and_hazards.md R250). -/
structure State.RecordInv (s : State) : Prop where
  idleLen : s.state = .idle → s.txlen.toNat = 0 ∨ (4 ≤ s.txlen.toNat ∧ s.txlen.toNat ≤ 256)
  idleAborted : s.state = .idle → s.txlen.toNat = 0 → s.txcrc = 0xFFFF#16
  idleSent : s.state = .idle → 4 ≤ s.txlen.toNat →
    s.txcrc = crc16 (s.txbuf.octets 0 (s.txlen.toNat - 2)) ∧
    s.txbuf.read (s.txlen.toNat - 2) = s.txcrc.extractLsb' 0 8 ∧
    s.txbuf.read (s.txlen.toNat - 1) = s.txcrc.extractLsb' 8 8
  rxcrcOfFrame : s.rxcrc = crc16 (s.rxbuf.octets 0 (s.framelen.toNat - 2))
  windowClear : s.state = .rxwait → s.framelen = 0#9 ∧ s.rxcrc = 0xFFFF#16 ∧ s.exc = 0x00#8
  excNoResponse : s.result = .noResponse → s.exc = 0x0B#8
  excOtherwise : s.result ≠ .noResponse → s.result ≠ .protocolException → s.exc = 0x00#8

/-- The timing registers are at reset or describe a TX_SEND: the ranges of 10_state.md R44, and DELAY by 42_timing.md R154. -/
structure State.TimingInv (s : State) : Prop where
  ranges :
    (s.predlen = 0#18 ∧ s.charcnt = 0#32 ∧ s.chardelay = 0#32 ∧ s.framedelay = 0#32) ∨
    (4 ≤ s.predlen.toNat ∧ s.predlen.toNat ≤ 131075 ∧ s.charcnt.toNat ≤ 525324 ∧
      (s.chardelay.toNat = 750 ∨ (781 ≤ s.chardelay.toNat ∧ s.chardelay.toNat ≤ 15000000)) ∧
      (s.framedelay.toNat = 1750 ∨ (1822 ≤ s.framedelay.toNat ∧ s.framedelay.toNat ≤ 35000000)))
  delayExact : s.delay.toNat = s.chardelay.toNat * s.charcnt.toNat + s.framedelay.toNat

/-- A state a run can be in, as far as the claims need it. -/
structure State.Inv (s : State) : Prop where
  buffers : s.BuffersCanonical
  exchange : s.ExchangeInv
  record : s.RecordInv
  timing : s.TimingInv

/-! ### What can be observed -/

/-- The same registers, ports and inputs; only the buffers may differ. -/
def State.SameRegisters (s t : State) : Prop :=
  t = { s with txbuf := t.txbuf, rxbuf := t.rxbuf }

/-- Two states that differ at most in the unspecified octets: TXBUF at or beyond TXLEN and RXBUF at or beyond min(RXLEN, 256)
(10_state.md R41, R45; 93_implementation_defined.md U1, U2). -/
structure State.SameDefined (s t : State) : Prop where
  registers : s.SameRegisters t
  tx : s.txFrame = t.txFrame
  rx : s.rxFrame = t.rxFrame

/-- The observation of a run: the responses, one per command, the final registers, and LINE_OUT (70_reset_and_hazards.md R257).
Of the buffers, TXBUF and RXBUF of 10_state.md R32, the defined octets are observed. -/
structure Observation where
  responses  : List Response
  registers  : List Word
  crc        : Crc
  txFrame    : List Octet
  rxFrame    : List Octet
  lineOut    : List Octet
  deriving DecidableEq, Repr

/-- The registers READ names, in the order of their numbers (10_state.md R49). -/
def allRegisters : List RegName :=
  [ .STATUS, .STATION, .BAUD, .MODE, .TXLEN, .TXCRC, .PREDLEN, .CHARCNT, .CHARDELAY, .FRAMEDELAY
  , .DELAY_LO, .DELAY_HI, .RXLEN, .FRAMELEN, .RXCRC ]

def State.observe (s : State) : Observation :=
  { responses := s.rspOut
    registers := allRegisters.map s.regval
    crc       := s.crc
    txFrame   := s.txFrame
    rxFrame   := s.rxFrame
    lineOut   := s.lineOut }

/-- An input is a command of the host. -/
def Input.isCommand : Input → Bool
  | .command _ => true
  | .lineRx _ | .windowClose | .reset => false

/-- The run has ended: no command is left and STATE is not RXWAIT (70_reset_and_hazards.md R257). -/
def State.runEnded (s : State) : Bool :=
  s.inputs.all (fun i => !i.isCommand) && decide (s.state ≠ .rxwait)

/-! ### Who may write what -/

/-- The registers and buffers of 10_state.md R32. -/
inductive Reg where
  | CRC | STATE | CLOSED | RESULT | EXC | STATION | BAUD | MODE | TXLEN | TXCRC | PREDLEN | CHARCNT
  | CHARDELAY | FRAMEDELAY | DELAY | RXLEN | FRAMELEN | RXCRC | TXBUF | RXBUF
  deriving DecidableEq, Repr

/-- A register has the same contents in two states; for a buffer, every octet reads the same. -/
def Reg.same (r : Reg) (s t : State) : Prop :=
  match r with
  | .CRC => t.crc = s.crc
  | .STATE => t.state = s.state
  | .CLOSED => t.closed = s.closed
  | .RESULT => t.result = s.result
  | .EXC => t.exc = s.exc
  | .STATION => t.station = s.station
  | .BAUD => t.baud = s.baud
  | .MODE => t.ccFcMult = s.ccFcMult
  | .TXLEN => t.txlen = s.txlen
  | .TXCRC => t.txcrc = s.txcrc
  | .PREDLEN => t.predlen = s.predlen
  | .CHARCNT => t.charcnt = s.charcnt
  | .CHARDELAY => t.chardelay = s.chardelay
  | .FRAMEDELAY => t.framedelay = s.framedelay
  | .DELAY => t.delay = s.delay
  | .RXLEN => t.rxlen = s.rxlen
  | .FRAMELEN => t.framelen = s.framelen
  | .RXCRC => t.rxcrc = s.rxcrc
  | .TXBUF => ∀ i, t.txbuf.read i = s.txbuf.read i
  | .RXBUF => ∀ i, t.rxbuf.read i = s.rxbuf.read i

/-- The commands of the "written by" column of 10_state.md R32. -/
def Reg.writers : Reg → List Mnemonic
  | .CRC => [.CRC_INIT, .CRC_UPDATE]
  | .STATE => [.TX_BEGIN, .TX_DATA, .TX_SEND]
  | .CLOSED => [.CLOSE]
  | .RESULT | .EXC => [.TX_SEND]
  | .STATION => [.SET_STATION]
  | .BAUD => [.SET_BAUD]
  | .MODE => [.SET_MODE]
  | .TXLEN => [.TX_BEGIN, .TX_DATA, .TX_SEND]
  | .TXCRC => [.TX_BEGIN, .TX_DATA]
  | .PREDLEN | .CHARCNT | .CHARDELAY | .FRAMEDELAY | .DELAY => [.TX_SEND]
  | .RXLEN | .FRAMELEN | .RXCRC => [.TX_SEND]
  | .TXBUF => [.TX_BEGIN, .TX_DATA, .TX_SEND]
  | .RXBUF => []

/-- LINE_RX and WINDOW_CLOSE in the "written by" column of 10_state.md R32. -/
def Reg.writtenByLineRx : Reg → Bool
  | .RXLEN | .RXBUF => true
  | _ => false

def Reg.writtenByWindowClose : Reg → Bool
  | .STATE | .RESULT | .EXC | .FRAMELEN | .RXCRC => true
  | _ => false

/-- The input may write the register by the "written by" column of 10_state.md R32: a legal word by its mnemonic, an illegal word
nothing, RESET everything. -/
def Input.mayWrite (i : Input) (r : Reg) : Bool :=
  match i with
  | .command w =>
    match decode w with
    | .ok c => decide (c.mnemonic ∈ r.writers)
    | .error _ => false
  | .lineRx _ => r.writtenByLineRx
  | .windowClose => r.writtenByWindowClose
  | .reset => true

/-! ### Acceptance -/

/-- The table of 60_exceptions.md R214: the command is not refused for the exchange state. -/
def acceptedIn : Mnemonic → Phase → Bool
  | .TX_BEGIN, .rxwait => false
  | .TX_DATA, .idle => false
  | .TX_DATA, .rxwait => false
  | .TX_SEND, .idle => false
  | .TX_SEND, .rxwait => false
  | .CLOSE, .rxwait => false
  | .READ_RX, .rxwait => false
  | _, _ => true

end Sys2Proof.Machine
end

