-- ==== Sys2Proof/Certificates/Slice0/Obligations.lean ====
section
/-! DEFINITION. The statements for the provers, one `def Obligations.<Name> : Prop` each, from the numbered rules of spec/. -/

open Sys2Proof Sys2Proof.Machine

/-! ### Encoding -/

/-- Decoding the encoded word of a well-formed instruction gives it back (30_encoding.md R80 to R87). -/
def Obligations.DecodeOfEncodeIsTheInstruction : Prop :=
  ∀ i : Instr, i.wellFormed = true → decode (encode i) = .ok i

/-- A legal word has one meaning: the instruction it decodes to is well-formed and encodes to that very word. -/
def Obligations.EncodeOfDecodeIsTheWord : Prop :=
  ∀ (w : Word) (i : Instr), decode w = .ok i → i.wellFormed = true ∧ encode i = w

/-- The decoder is the loop of R87 over the match and mask rows of R86, and a word no row selects is answered (0x01, 0) with no
state changed. -/
def Obligations.DecodeFollowsTheOpcodeMap : Prop :=
  (∀ w : Word, (decode w).toOption.map Instr.mnemonic = selectRow w) ∧
  ∀ (s : State) (w : Word) (rest : List Input),
    s.inputs = .command w :: rest → selectRow w = none →
    step s = .next { s with inputs := rest, rspOut := s.rspOut ++ [⟨0x01#8, 0#32⟩] }

/-- No word matches two rows of the opcode map (30_encoding.md R86). -/
def Obligations.OpcodeRowsAreDisjoint : Prop :=
  ∀ (w : Word) (r₁ r₂ : OpcodeRow), r₁ ∈ opcodeTable → r₂ ∈ opcodeTable →
    w &&& r₁.mask = r₁.pattern → w &&& r₂.mask = r₂.pattern → r₁ = r₂

/-- The illegal words are exactly those R88 lists, and each is answered (0x01, 0) with no state changed; the zero word is NOP. -/
def Obligations.IllegalWordsAreExactlyTheListed : Prop :=
  (∀ w : Word,
    (∃ why, decode w = .error why) ↔
      let op := (w.extractLsb' 24 8).toNat
      let arg := w.extractLsb' 0 24
      ((0x04 ≤ op ∧ op ≤ 0x0F) ∨ (0x13 ≤ op ∧ op ≤ 0x1F) ∨ (0x23 ≤ op ∧ op ≤ 0x2F) ∨
        (0x31 ≤ op ∧ op ≤ 0x3F) ∨ (0x43 ≤ op ∧ op ≤ 0xFF)) ∨
      (op ∈ [0x00, 0x01, 0x03, 0x22, 0x30] ∧ arg ≠ 0#24) ∨
      (op ∈ [0x02, 0x10, 0x20, 0x21, 0x40, 0x41, 0x42] ∧ arg.extractLsb' 8 16 ≠ 0#16) ∨
      (op = 0x12 ∧ arg.extractLsb' 1 23 ≠ 0#23) ∨
      (op = 0x40 ∧ 0x0E < (arg.extractLsb' 0 8).toNat)) ∧
  (∀ (s : State) (w : Word) (rest : List Input) (why : Illegal),
    s.inputs = .command w :: rest → decode w = .error why →
    step s = .next { s with inputs := rest, rspOut := s.rspOut ++ [⟨0x01#8, 0#32⟩] }) ∧
  decode 0x00000000#32 = .ok .nop

/-- Every operand is its field, zero-extended: `b = ARG[7:0]`, `w = ARG[23:0]`, `m = ARG[0]` (30_encoding.md R85). -/
def Obligations.OperandsAreTheArgumentFields : Prop :=
  ∀ (w : Word) (i : Instr), decode w = .ok i →
    match i with
    | .nop | .crcInit | .crcRead | .txSend | .close => True
    | .crcUpdate b | .txData b => b = w.extractLsb' 0 8
    | .setStation a => a = w.extractLsb' 0 8
    | .txBegin fc => fc = w.extractLsb' 0 8
    | .read r => r = w.extractLsb' 0 8
    | .readTx k | .readRx k => k = w.extractLsb' 0 8
    | .setBaud v => v = w.extractLsb' 0 24
    | .setMode m => m = w.getLsbD 0

/-- Words written out from the patterns of 30_encoding.md R86, one per format and unit, decode to what they stand for. -/
def Obligations.SpecWordsDecode : Prop :=
  decode 0x00000000#32 = .ok .nop ∧
  decode 0x02000006#32 = .ok (.crcUpdate 0x06#8) ∧
  decode 0x03000000#32 = .ok .crcRead ∧
  decode 0x10000006#32 = .ok (.setStation 0x06#8) ∧
  decode 0x11002580#32 = .ok (.setBaud 9600#24) ∧
  decode 0x12000001#32 = .ok (.setMode true) ∧
  decode 0x20000004#32 = .ok (.txBegin 0x04#8) ∧
  decode 0x22000000#32 = .ok .txSend ∧
  decode 0x30000000#32 = .ok .close ∧
  decode 0x4000000E#32 = .ok (.read 0x0E#8) ∧
  decode 0x420000FF#32 = .ok (.readRx 0xFF#8)

/-- An assembled word holds its mnemonic's opcode and its operand; an operand is taken up to 255 for format B, 16,777,215 for W and 1 for
M, and above that gives no word; a format Z mnemonic takes no operand, and the others need one (30_encoding.md R92). -/
def Obligations.AssembledWordHoldsOpcodeAndOperand : Prop :=
  (∀ (m : Mnemonic) (operand : Option Nat) (w : Word), Asm.assembleWord m operand = some w →
    w.extractLsb' 24 8 = m.opcode ∧ (w.extractLsb' 0 24).toNat = operand.getD 0) ∧
  (∀ m ∈ [.CRC_UPDATE, .SET_STATION, .TX_BEGIN, .TX_DATA, .READ, .READ_TX, .READ_RX], ∀ v : Nat,
    (∃ w, Asm.assembleWord m (some v) = some w) ↔ v ≤ 255) ∧
  (∀ v : Nat, (∃ w, Asm.assembleWord .SET_BAUD (some v) = some w) ↔ v ≤ 16777215) ∧
  (∀ v : Nat, (∃ w, Asm.assembleWord .SET_MODE (some v) = some w) ↔ v ≤ 1) ∧
  (∀ m : Mnemonic,
    (m ∈ [.NOP, .CRC_INIT, .CRC_READ, .TX_SEND, .CLOSE] →
      (∃ w, Asm.assembleWord m none = some w) ∧ ∀ v : Nat, Asm.assembleWord m (some v) = none) ∧
    (m ∉ [.NOP, .CRC_INIT, .CRC_READ, .TX_SEND, .CLOSE] → Asm.assembleWord m none = none)) ∧
  (∀ i : Instr, ∃ operand, Asm.assembleWord i.mnemonic operand = some (encode i))

/-! ### Steps -/

/-- A step whose next input is a command word that decodes to `i` is `exec i`, with the word taken off the list. -/
def Obligations.StepRunsTheDecodedCommand : Prop :=
  ∀ (s : State) (w : Word) (rest : List Input) (i : Instr),
    s.inputs = .command w :: rest → decode w = .ok i →
    step s = exec i { s with inputs := rest }

/-- The model's choice (log 2, log 9): with no input pending a step keeps the whole state, and `withFetchWord` makes a word of the
opcode table the very next command. -/
def Obligations.StepWithoutInputKeepsTheState : Prop :=
  (∀ s : State, s.inputs = [] → step s = .next s) ∧
  ∀ (s : State) (w : Nat) (i : Instr), w < 2 ^ 32 → decode (BitVec.ofNat 32 w) = .ok i →
    step (s.withFetchWord 32 w) = exec i s

/-! ### Commands: effect, frame, encoding, refusals -/

/-- NOP answers (0x00, 0) in every state and changes nothing (44_control.md R190). -/
def Obligations.NopOnlyAnswers : Prop :=
  (∀ s : State, exec .nop s = .next { s with rspOut := s.rspOut ++ [⟨0x00#8, 0#32⟩] }) ∧
  ∀ arg : BitVec 24, decode (0x00#8 ++ arg) =
    if arg = 0#24 then .ok .nop else .error .nonzeroArgument

/-- CRC_INIT sets CRC to 0xFFFF in every state and changes nothing else (40_checksum.md R113). -/
def Obligations.CrcInitRestartsTheChecksum : Prop :=
  (∀ s : State, exec .crcInit s =
    .next { s with crc := 0xFFFF#16, rspOut := s.rspOut ++ [⟨0x00#8, 0#32⟩] }) ∧
  ∀ arg : BitVec 24, decode (0x01#8 ++ arg) =
    if arg = 0#24 then .ok .crcInit else .error .nonzeroArgument

/-- CRC_UPDATE folds its octet into CRC in every state and changes nothing else; a zero octet changes CRC except at the two fixed
points, and a message followed by its own checksum, low octet first, leaves CRC 0 (40_checksum.md R114). The fixed points, the example and
the message with its checksum (R116) the spec marks as its own inferences from R111 and R112. -/
def Obligations.CrcUpdateFoldsOneOctet : Prop :=
  (∀ (b : Octet) (s : State), exec (.crcUpdate b) s =
    .next { s with crc := crc16Step s.crc b, rspOut := s.rspOut ++ [⟨0x00#8, 0#32⟩] }) ∧
  (∀ arg : BitVec 24, decode (0x02#8 ++ arg) =
    if arg.extractLsb' 8 16 = 0#16 then .ok (.crcUpdate (arg.extractLsb' 0 8))
    else .error .nonzeroArgument) ∧
  (∀ c : Crc, crc16Step c 0x00#8 = c ↔ (c = 0x0000#16 ∨ c = 0xC001#16)) ∧
  crc16Step 0xFFFF#16 0xFF#8 = 0x00FF#16 ∧
  (∀ message : List Octet,
    let c := message.foldl crc16Step 0xFFFF#16
    crc16Step (crc16Step c (c.extractLsb' 0 8)) (c.extractLsb' 8 8) = 0x0000#16) ∧
  crc16Step 0xFFFF#16 0x06#8 = 0x423F#16 ∧ crc16Step 0x423F#16 0x04#8 = 0xD303#16

/-- CRC_READ answers CRC zero-extended in every state and changes nothing (40_checksum.md R115). -/
def Obligations.CrcReadAnswersTheChecksum : Prop :=
  (∀ s : State, exec .crcRead s =
    .next { s with rspOut := s.rspOut ++ [⟨0x00#8, s.crc.setWidth 32⟩] }) ∧
  ∀ arg : BitVec 24, decode (0x03#8 ++ arg) =
    if arg = 0#24 then .ok .crcRead else .error .nonzeroArgument

/-- SET_STATION, SET_BAUD and SET_MODE store their operand in every state, whatever its value, and change nothing else
(44_control.md R191 to R193). -/
def Obligations.ConfigurationCommandsStoreTheirOperand : Prop :=
  (∀ (a : Octet) (s : State), exec (.setStation a) s =
    .next { s with station := a, rspOut := s.rspOut ++ [⟨0x00#8, 0#32⟩] }) ∧
  (∀ (w : BitVec 24) (s : State), exec (.setBaud w) s =
    .next { s with baud := w, rspOut := s.rspOut ++ [⟨0x00#8, 0#32⟩] }) ∧
  (∀ (m : Bool) (s : State), exec (.setMode m) s =
    .next { s with ccFcMult := m, rspOut := s.rspOut ++ [⟨0x00#8, 0#32⟩] }) ∧
  (∀ arg : BitVec 24, decode (0x10#8 ++ arg) =
    if arg.extractLsb' 8 16 = 0#16 then .ok (.setStation (arg.extractLsb' 0 8))
    else .error .nonzeroArgument) ∧
  (∀ arg : BitVec 24, decode (0x11#8 ++ arg) = .ok (.setBaud arg)) ∧
  ∀ arg : BitVec 24, decode (0x12#8 ++ arg) =
    if arg.extractLsb' 1 23 = 0#23 then .ok (.setMode (arg.getLsbD 0))
    else .error .nonzeroArgument

/-- READ of a register number 0x00 to 0x0E answers that register in every state and changes nothing; a READ word with another
number, or with nonzero must-be-zero bits, is illegal (44_control.md R195, 10_state.md R49). -/
def Obligations.ReadAnswersEveryRegister : Prop :=
  (∀ (r : Octet) (s : State) (value : Word),
    (r, value) ∈
      [ (0x00#8, s.statusWord), (0x01#8, s.station.setWidth 32), (0x02#8, s.baud.setWidth 32)
      , (0x03#8, if s.ccFcMult then 1#32 else 0#32), (0x04#8, s.txlen.setWidth 32)
      , (0x05#8, s.txcrc.setWidth 32), (0x06#8, s.predlen.setWidth 32), (0x07#8, s.charcnt)
      , (0x08#8, s.chardelay), (0x09#8, s.framedelay), (0x0A#8, s.delay.extractLsb' 0 32)
      , (0x0B#8, s.delay.extractLsb' 32 32), (0x0C#8, s.rxlen.setWidth 32)
      , (0x0D#8, s.framelen.setWidth 32), (0x0E#8, s.rxcrc.setWidth 32) ] →
    exec (.read r) s = .next { s with rspOut := s.rspOut ++ [⟨0x00#8, value⟩] }) ∧
  ∀ arg : BitVec 24,
    (arg.toNat ≤ 0x0E → decode (0x40#8 ++ arg) = .ok (.read (arg.extractLsb' 0 8))) ∧
    (0x0E < arg.toNat → ∃ why, decode (0x40#8 ++ arg) = .error why)

/-- The STATUS word, field by field with the values of 10_state.md R34, R35, R39 and R40, and 0 at reset (10_state.md R50). -/
def Obligations.StatusWordLayout : Prop :=
  (∀ s : State,
    s.statusWord.extractLsb' 0 2 =
      (match s.state with
       | .idle => 0#2 | .assemble => 1#2 | .rxwait => 2#2) ∧
    s.statusWord.getLsbD 2 = s.closed ∧
    s.statusWord.extractLsb' 3 5 = 0#5 ∧
    s.statusWord.extractLsb' 8 4 =
      (match s.result with
       | .none => 0#4 | .ok => 1#4 | .noResponse => 2#4 | .unexpectedData => 3#4 | .responseTooShort => 4#4
       | .stationMismatch => 5#4 | .checksumMismatch => 6#4 | .protocolException => 7#4) ∧
    s.statusWord.extractLsb' 12 4 = 0#4 ∧
    s.statusWord.extractLsb' 16 8 = s.exc ∧
    s.statusWord.extractLsb' 24 8 = 0#8) ∧
  State.reset.statusWord = 0x00000000#32

/-- READ_TX answers TXBUF[i] below TXLEN and BAD_INDEX at or beyond it, in every state, and changes nothing (44_control.md R196). -/
def Obligations.ReadTxAnswersDefinedOctets : Prop :=
  (∀ (k : Octet) (s : State), k.toNat < s.txlen.toNat →
    exec (.readTx k) s =
      .next { s with rspOut := s.rspOut ++ [⟨0x00#8, (s.txbuf.read k.toNat).setWidth 32⟩] }) ∧
  (∀ (k : Octet) (s : State), s.txlen.toNat ≤ k.toNat →
    exec (.readTx k) s = .next { s with rspOut := s.rspOut ++ [⟨0x06#8, 0#32⟩] }) ∧
  ∀ arg : BitVec 24, decode (0x41#8 ++ arg) =
    if arg.extractLsb' 8 16 = 0#16 then .ok (.readTx (arg.extractLsb' 0 8))
    else .error .nonzeroArgument

/-- READ_RX is refused with STATE_ERR in RXWAIT; otherwise it answers RXBUF[i] below min(RXLEN, 256) and BAD_INDEX at or beyond it,
and changes nothing (44_control.md R197). -/
def Obligations.ReadRxAnswersDefinedOctets : Prop :=
  (∀ (k : Octet) (s : State), s.state = .rxwait →
    exec (.readRx k) s = .next { s with rspOut := s.rspOut ++ [⟨0x02#8, 0#32⟩] }) ∧
  (∀ (k : Octet) (s : State), s.state ≠ .rxwait → k.toNat < min s.rxlen.toNat 256 →
    exec (.readRx k) s =
      .next { s with rspOut := s.rspOut ++ [⟨0x00#8, (s.rxbuf.read k.toNat).setWidth 32⟩] }) ∧
  (∀ (k : Octet) (s : State), s.state ≠ .rxwait → min s.rxlen.toNat 256 ≤ k.toNat →
    exec (.readRx k) s = .next { s with rspOut := s.rspOut ++ [⟨0x06#8, 0#32⟩] }) ∧
  ∀ arg : BitVec 24, decode (0x42#8 ++ arg) =
    if arg.extractLsb' 8 16 = 0#16 then .ok (.readRx (arg.extractLsb' 0 8))
    else .error .nonzeroArgument

/-- TX_BEGIN outside RXWAIT, with the channel open or closed, latches STATION and the function code as the new frame, its length 2
and its CRC, and enters ASSEMBLE; every other register and every other octet of TXBUF is unchanged. In RXWAIT it is refused
(41_frame_codec.md R131). That TXBUF octets at index 2 and beyond, unspecified by 10_state.md R41, keep what they held is the model's
choice (log 5). -/
def Obligations.TxBeginStartsAFrame : Prop :=
  (∀ (fc : Octet) (s : State), s.BuffersCanonical → s.state ≠ .rxwait →
    ∃ t, exec (.txBegin fc) s = .next t ∧
      t = { s with txbuf := t.txbuf, txlen := 2#9, txcrc := crc16 [s.station, fc],
                   state := .assemble, rspOut := s.rspOut ++ [⟨0x00#8, 0#32⟩] } ∧
      t.txbuf.read 0 = s.station ∧ t.txbuf.read 1 = fc ∧
      ∀ a, a ≠ 0 → a ≠ 1 → t.txbuf.read a = s.txbuf.read a) ∧
  (∀ (fc : Octet) (s : State), s.state = .rxwait →
    exec (.txBegin fc) s = .next { s with rspOut := s.rspOut ++ [⟨0x02#8, 0#32⟩] }) ∧
  ∀ arg : BitVec 24, decode (0x20#8 ++ arg) =
    if arg.extractLsb' 8 16 = 0#16 then .ok (.txBegin (arg.extractLsb' 0 8))
    else .error .nonzeroArgument

/-- TX_DATA in ASSEMBLE stores its octet at index TXLEN, adds 1 to TXLEN and folds the octet into TXCRC, every other register and
octet unchanged; at TXLEN 254 it answers FRAME_TOO_LARGE and discards the frame; outside ASSEMBLE it is refused with STATE_ERR
(41_frame_codec.md R132). TXLEN below 256 holds in every state a run reaches (10_state.md R42). That TXBUF octets beyond the new
TXLEN, all of them after FRAME_TOO_LARGE, keep what they held is the model's choice (log 5): 10_state.md R41 leaves them unspecified. -/
def Obligations.TxDataAppendsOneOctet : Prop :=
  (∀ (b : Octet) (s : State), s.BuffersCanonical → s.state = .assemble →
    s.txlen.toNat < 256 → s.txlen.toNat ≠ 254 →
    ∃ t, exec (.txData b) s = .next t ∧
      t = { s with txbuf := t.txbuf, txlen := t.txlen, txcrc := crc16Step s.txcrc b,
                   rspOut := s.rspOut ++ [⟨0x00#8, 0#32⟩] } ∧
      t.txlen.toNat = s.txlen.toNat + 1 ∧
      t.txbuf.read s.txlen.toNat = b ∧
      ∀ a, a ≠ s.txlen.toNat → t.txbuf.read a = s.txbuf.read a) ∧
  (∀ (b : Octet) (s : State), s.state = .assemble → s.txlen.toNat = 254 →
    exec (.txData b) s =
      .next { s with txlen := 0#9, txcrc := 0xFFFF#16, state := .idle,
                     rspOut := s.rspOut ++ [⟨0x03#8, 0#32⟩] }) ∧
  (∀ (b : Octet) (s : State), s.state ≠ .assemble →
    exec (.txData b) s = .next { s with rspOut := s.rspOut ++ [⟨0x02#8, 0#32⟩] }) ∧
  ∀ arg : BitVec 24, decode (0x21#8 ++ arg) =
    if arg.extractLsb' 8 16 = 0#16 then .ok (.txData (arg.extractLsb' 0 8))
    else .error .nonzeroArgument

/-- TX_SEND in ASSEMBLE with the channel open appends the CRC octets low first, transmits the whole ADU, computes the timing
registers from it, clears the receive side and the outcome, and enters RXWAIT; every other register and octet is unchanged. Outside
ASSEMBLE it is refused with STATE_ERR, and otherwise on a closed channel with CHANNEL_CLOSED (43_transport.md R174, 42_timing.md
R150, R153 to R155; the length bounds hold in every state a run reaches, 10_state.md R55). That TXBUF octets beyond the ADU, and RXBUF
once RXLEN is 0, keep what they held is the model's choice (log 5): 10_state.md R41 and R45 leave them unspecified. -/
def Obligations.TxSendTransmitsTheFrame : Prop :=
  (∀ s : State, s.BuffersCanonical → s.state = .assemble → s.closed = false →
    2 ≤ s.txlen.toNat → s.txlen.toNat ≤ 254 →
    ∃ t, exec .txSend s = .next t ∧
      let adu := s.txbuf.octets 0 s.txlen.toNat ++ [s.txcrc.extractLsb' 0 8, s.txcrc.extractLsb' 8 8]
      let fc := adu.getD 1 0x00#8
      let count := (adu.getD 4 0x00#8).toNat * 256 + (adu.getD 5 0x00#8).toNat
      let chars := adu.length + predictedLen fc count
      t = { s with txbuf := t.txbuf, txlen := t.txlen, predlen := t.predlen, charcnt := t.charcnt,
                   chardelay := t.chardelay, framedelay := t.framedelay, delay := t.delay,
                   lineOut := s.lineOut ++ adu, rxlen := 0#9, framelen := 0#9, rxcrc := 0xFFFF#16,
                   result := .none, exc := 0x00#8, state := .rxwait,
                   rspOut := s.rspOut ++ [⟨0x00#8, 0#32⟩] } ∧
      t.txlen.toNat = s.txlen.toNat + 2 ∧
      t.txbuf.octets 0 t.txlen.toNat = adu ∧
      (∀ a, a ≠ s.txlen.toNat → a ≠ s.txlen.toNat + 1 → t.txbuf.read a = s.txbuf.read a) ∧
      t.predlen.toNat = predictedLen fc count ∧
      t.charcnt.toNat = (if s.ccFcMult then chars * fc.toNat else chars) ∧
      (t.chardelay.toNat, t.framedelay.toNat) = charFrameDelay s.baud ∧
      t.delay.toNat = t.chardelay.toNat * t.charcnt.toNat + t.framedelay.toNat) ∧
  (∀ s : State, s.state ≠ .assemble →
    exec .txSend s = .next { s with rspOut := s.rspOut ++ [⟨0x02#8, 0#32⟩] }) ∧
  (∀ s : State, s.state = .assemble → s.closed = true →
    exec .txSend s = .next { s with rspOut := s.rspOut ++ [⟨0x05#8, 0#32⟩] }) ∧
  ∀ arg : BitVec 24, decode (0x22#8 ++ arg) =
    if arg = 0#24 then .ok .txSend else .error .nonzeroArgument

/-- CLOSE outside RXWAIT sets CLOSED once and changes nothing else; again it answers ALREADY_CLOSED; with the channel open in RXWAIT it
answers STATE_ERR (43_transport.md R175). -/
def Obligations.CloseReleasesTheChannelOnce : Prop :=
  (∀ s : State, s.closed = false → s.state ≠ .rxwait →
    exec .close s = .next { s with closed := true, rspOut := s.rspOut ++ [⟨0x00#8, 0#32⟩] }) ∧
  (∀ s : State, s.closed = true →
    exec .close s = .next { s with rspOut := s.rspOut ++ [⟨0x04#8, 0#32⟩] }) ∧
  (∀ s : State, s.closed = false → s.state = .rxwait →
    exec .close s = .next { s with rspOut := s.rspOut ++ [⟨0x02#8, 0#32⟩] }) ∧
  ∀ arg : BitVec 24, decode (0x30#8 ++ arg) =
    if arg = 0#24 then .ok .close else .error .nonzeroArgument

/-- The model's choice (log 7): where TX_DATA or TX_SEND would store at index 256 or above, which does not exist (20_memory.md R60),
the step stops and no octet is sent; the invariants of 10_state.md R55 exclude these states. -/
def Obligations.AssemblyStopsOutsideTheBuffer : Prop :=
  (∀ (b : Octet) (s : State), s.state = .assemble → 256 ≤ s.txlen.toNat →
    exec (.txData b) s = .fault .noSuchOctet) ∧
  (∀ s : State, s.state = .assemble → s.closed = false → 254 < s.txlen.toNat →
    exec .txSend s = .fault .noSuchOctet) ∧
  ∀ s : State, s.ExchangeInv → s.state = .assemble → ¬ 254 < s.txlen.toNat

/-- NOP, CRC_READ, READ, READ_TX and READ_RX change no state but the response they return, and a second one in a row returns the same
response (20_memory.md R67). -/
def Obligations.ReadsChangeNothingAndRepeat : Prop :=
  ∀ (i : Instr) (s : State),
    i.mnemonic ∈ [.NOP, .CRC_READ, .READ, .READ_TX, .READ_RX] →
    ∃ r : Response,
      exec i s = .next { s with rspOut := s.rspOut ++ [r] } ∧
      exec i { s with rspOut := s.rspOut ++ [r] } = .next { s with rspOut := s.rspOut ++ [r] ++ [r] }

/-! ### Events and reset -/

/-- LINE_RX in RXWAIT stores the octet at index RXLEN while RXLEN is below 256 and otherwise drops it and sets RXLEN to 257; outside
RXWAIT nothing changes. It returns no response (43_transport.md R177). -/
def Obligations.LineRxFillsTheWindow : Prop :=
  (∀ (b : Octet) (s : State) (rest : List Input), s.inputs = .lineRx b :: rest →
    s.BuffersCanonical → s.state = .rxwait → s.rxlen.toNat < 256 →
    ∃ t, step s = .next t ∧
      t = { s with inputs := rest, rxbuf := t.rxbuf, rxlen := t.rxlen } ∧
      t.rxlen.toNat = s.rxlen.toNat + 1 ∧
      t.rxbuf.read s.rxlen.toNat = b ∧
      ∀ a, a ≠ s.rxlen.toNat → t.rxbuf.read a = s.rxbuf.read a) ∧
  (∀ (b : Octet) (s : State) (rest : List Input), s.inputs = .lineRx b :: rest →
    s.state = .rxwait → 256 ≤ s.rxlen.toNat →
    step s = .next { s with inputs := rest, rxlen := 257#9 }) ∧
  ∀ (b : Octet) (s : State) (rest : List Input), s.inputs = .lineRx b :: rest →
    s.state ≠ .rxwait → step s = .next { s with inputs := rest }

/-- WINDOW_CLOSE in RXWAIT writes RESULT, EXC, FRAMELEN, RXCRC and STATE and nothing else, by the table of 43_transport.md R181: `n` is
RXLEN, `rx` the octets received, `tx` the request, and a frame of length `L` passes the CRC check when its first `L` octets are its
first `L - 2` followed by their CRC octets (41_frame_codec.md R140). Outside RXWAIT it has no step (43_transport.md R178). -/
def Obligations.WindowCloseClassifiesTheResponse : Prop :=
  (∀ (s : State) (rest : List Input), s.inputs = .windowClose :: rest → s.state ≠ .rxwait →
    ∀ t : State, step s ≠ .next t) ∧
  ∀ (s : State) (rest : List Input), s.inputs = .windowClose :: rest → s.state = .rxwait →
    ∃ t, step s = .next t ∧
      t = { s with inputs := rest, result := t.result, exc := t.exc, framelen := t.framelen,
                   rxcrc := t.rxcrc, state := .idle } ∧
      let n := s.rxlen.toNat
      let rx := s.rxbuf.octets 0 (min n 256)
      let rx0 := rx.getD 0 0x00#8
      let rx1 := rx.getD 1 0x00#8
      let tx0 := s.txbuf.read 0
      let tx1 := s.txbuf.read 1
      let valid := fun L : Nat => rx.take L =
        rx.take (L - 2) ++ [(crc16 (rx.take (L - 2))).extractLsb' 0 8, (crc16 (rx.take (L - 2))).extractLsb' 8 8]
      let checked := fun (L : Nat) (good : Result) (goodExc : Octet) =>
        t.framelen.toNat = L ∧ t.rxcrc = crc16 (rx.take (L - 2)) ∧
        (L < 4 → t.result = .responseTooShort ∧ t.exc = 0x00#8) ∧
        (4 ≤ L → rx0 ≠ tx0 → t.result = .stationMismatch ∧ t.exc = 0x00#8) ∧
        (4 ≤ L → rx0 = tx0 → ¬ valid L → t.result = .checksumMismatch ∧ t.exc = 0x00#8) ∧
        (4 ≤ L → rx0 = tx0 → valid L → t.result = good ∧ t.exc = goodExc)
      let unexpected :=
        t.result = .unexpectedData ∧ t.exc = 0x00#8 ∧ t.framelen.toNat = 0 ∧ t.rxcrc = 0xFFFF#16
      (n = 0 → t.result = .noResponse ∧ t.exc = 0x0B#8 ∧ t.framelen.toNat = 0 ∧ t.rxcrc = 0xFFFF#16) ∧
      (256 < n → unexpected) ∧
      (n = 1 → unexpected) ∧
      (2 ≤ n → n ≤ 256 → rx1 ≠ tx1 → rx1 ≠ tx1 ||| 0x80#8 → unexpected) ∧
      (2 ≤ n → n ≤ 256 → rx1 = tx1 → checked n .ok 0x00#8) ∧
      (2 ≤ n → n ≤ 256 → rx1 ≠ tx1 → rx1 = tx1 ||| 0x80#8 →
        checked (min n 5) .protocolException (if 5 ≤ n then rx.getD 2 0x00#8 else 0x00#8))

/-- WINDOW_CLOSE outside RXWAIT is not enabled: the model stops there (43_transport.md R178, log 3). -/
def Obligations.WindowCloseNeedsAnOpenWindow : Prop :=
  ∀ (s : State) (rest : List Input), s.inputs = .windowClose :: rest → s.state ≠ .rxwait →
    step s = .fault .windowCloseNotEnabled

/-- A response whose function code is the request's with bit 7 added is never reported OK, PROTOCOL_EXCEPTION is reported only for
such a response, with EXC its exception octet, and a 4-octet one with a valid CRC is reported with EXC 0 (41_frame_codec.md R142). -/
def Obligations.ExceptionFrameIsNeverOk : Prop :=
  (∀ (s t : State) (rest : List Input), s.inputs = .windowClose :: rest → step s = .next t →
    (t.result = .ok → s.rxbuf.read 1 = s.txbuf.read 1) ∧
    (t.result = .protocolException →
      s.rxbuf.read 1 = s.txbuf.read 1 ||| 0x80#8 ∧ s.rxbuf.read 1 ≠ s.txbuf.read 1 ∧
      t.errorKind = some (.protocolException (s.txbuf.read 1 ||| 0x80#8) t.exc) ∧
      t.exc = if t.framelen.toNat = 5 then s.rxbuf.read 2 else 0x00#8)) ∧
  ∀ (s : State) (rest : List Input), s.inputs = .windowClose :: rest → s.state = .rxwait → s.rxlen = 4#9 →
    s.rxbuf.read 0 = s.txbuf.read 0 → s.rxbuf.read 1 = s.txbuf.read 1 ||| 0x80#8 →
    s.rxbuf.read 1 ≠ s.txbuf.read 1 →
    (let c := crc16 [s.rxbuf.read 0, s.rxbuf.read 1]
     s.rxbuf.read 2 = c.extractLsb' 0 8 ∧ s.rxbuf.read 3 = c.extractLsb' 8 8) →
    ∃ t, step s = .next t ∧ t.result = .protocolException ∧ t.exc = 0x00#8

/-- RESET in any state sets every register to its reset value, keeps LINE_OUT, and returns no response (70_reset_and_hazards.md R240).
Nothing is said of the buffers, whose contents it leaves unspecified. -/
def Obligations.ResetSetsEveryRegister : Prop :=
  ∀ (s : State) (rest : List Input), s.inputs = .reset :: rest →
    ∃ t, step s = .next t ∧
      t.crc = 0xFFFF#16 ∧ t.state = .idle ∧ t.closed = false ∧ t.result = .none ∧ t.exc = 0x00#8 ∧
      t.station = 0x00#8 ∧ t.baud = 0#24 ∧ t.ccFcMult = false ∧ t.txlen = 0#9 ∧ t.txcrc = 0xFFFF#16 ∧
      t.predlen = 0#18 ∧ t.charcnt = 0#32 ∧ t.chardelay = 0#32 ∧ t.framedelay = 0#32 ∧ t.delay = 0#64 ∧
      t.rxlen = 0#9 ∧ t.framelen = 0#9 ∧ t.rxcrc = 0xFFFF#16 ∧
      t.lineOut = s.lineOut ∧ t.rspOut = s.rspOut ∧ t.inputs = rest

/-- The power-on state is the state after RESET with LINE_OUT empty, up to the unspecified buffer octets (70_reset_and_hazards.md
R241). Nothing is said of the response list and the inputs, which are the model's own (log 8, log 9). -/
def Obligations.PowerOnIsTheStateAfterReset : Prop :=
  State.reset.lineOut = [] ∧
  ∀ (s : State) (rest : List Input), s.inputs = .reset :: rest →
    ∃ t, step s = .next t ∧
      State.reset.SameDefined
        { t with lineOut := [], rspOut := State.reset.rspOut, inputs := State.reset.inputs }

/-- After RESET: READ STATUS answers 0, CRC_READ answers 0xFFFF, and READ_TX and READ_RX answer BAD_INDEX for every index
(70_reset_and_hazards.md R242, which the spec marks as its own inference from R240, 44_control.md R196 and R197). -/
def Obligations.ReadsAfterReset : Prop :=
  ∀ (s : State) (rest : List Input) (k : Octet), s.inputs = .reset :: rest →
    ∃ t, step s = .next t ∧
      t.state = .idle ∧ t.closed = false ∧ t.result = .none ∧ t.exc = 0x00#8 ∧
      exec (.read 0x00#8) t = .next { t with rspOut := t.rspOut ++ [⟨0x00#8, 0x00000000#32⟩] } ∧
      exec .crcRead t = .next { t with rspOut := t.rspOut ++ [⟨0x00#8, 0x0000FFFF#32⟩] } ∧
      exec (.readTx k) t = .next { t with rspOut := t.rspOut ++ [⟨0x06#8, 0#32⟩] } ∧
      exec (.readRx k) t = .next { t with rspOut := t.rspOut ++ [⟨0x06#8, 0#32⟩] }

/-! ### Timing -/

/-- The predicted response length: 5 plus an eighth of the quantity rounded up for codes 1 and 2, 5 plus twice the quantity for 3 and 4,
8 for 5, 6, 15 and 16, and 4 for every other code, with its ranges; the quantity is octets 4 and 5 of the ADU, big-endian, an octet at or
beyond TXLEN read as 0 (42_timing.md R151). -/
def Obligations.PredictedLengthByFunctionCode : Prop :=
  (∀ s : State,
    let oct := fun i : Nat => if i < s.txlen.toNat then s.txbuf.read i else 0x00#8
    s.predLen = predictedLen (s.txbuf.read 1) ((oct 4).toNat * 256 + (oct 5).toNat)) ∧
  ∀ (fc : Octet) (count : Nat), count < 65536 →
    (fc.toNat ∈ [1, 2] → ∃ q, predictedLen fc count = 5 + q ∧ count ≤ 8 * q ∧ 8 * q < count + 8 ∧
      predictedLen fc count ≤ 8197) ∧
    (fc.toNat ∈ [3, 4] → predictedLen fc count = 5 + 2 * count ∧ predictedLen fc count ≤ 131075) ∧
    (fc.toNat ∈ [5, 6, 15, 16] → predictedLen fc count = 8) ∧
    (fc.toNat ∉ [1, 2, 3, 4, 5, 6, 15, 16] → predictedLen fc count = 4)

/-- The character and frame delays: fixed when BAUD is 0 or above 19200, otherwise the truncated quotients (42_timing.md R152).
The values at 19200 and 19201 the spec marks as its own inference from that rule. -/
def Obligations.DelaysByBaudRate : Prop :=
  (∀ baud : BitVec 24, (baud.toNat = 0 ∨ 19200 < baud.toNat) → charFrameDelay baud = (750, 1750)) ∧
  (∀ baud : BitVec 24, 0 < baud.toNat → baud.toNat ≤ 19200 →
    ∃ cd fd, charFrameDelay baud = (cd, fd) ∧
      cd * baud.toNat ≤ 15000000 ∧ 15000000 < (cd + 1) * baud.toNat ∧
      fd * baud.toNat ≤ 35000000 ∧ 35000000 < (fd + 1) * baud.toNat) ∧
  charFrameDelay 9600#24 = (1562, 3645) ∧
  charFrameDelay 19200#24 = (781, 1822) ∧
  charFrameDelay 19201#24 = (750, 1750)

/-- The timing registers hold the exact values of the timing functions, within the ranges of 10_state.md R44, for every ADU of 4 to 256
octets (42_timing.md R155; the ranges are the spec's own inference from R151 to R154). -/
def Obligations.TimingRegistersHoldExactValues : Prop :=
  ∀ s : State, 4 ≤ s.txlen.toNat → s.txlen.toNat ≤ 256 →
    let t := s.timingUpdate
    t.predlen.toNat = s.predLen ∧ 4 ≤ s.predLen ∧ s.predLen ≤ 131075 ∧
    t.charcnt.toNat = s.charCount s.predLen ∧ s.charCount s.predLen ≤ 525324 ∧
    t.chardelay.toNat = (charFrameDelay s.baud).1 ∧
    (t.chardelay.toNat = 750 ∨ (781 ≤ t.chardelay.toNat ∧ t.chardelay.toNat ≤ 15000000)) ∧
    t.framedelay.toNat = (charFrameDelay s.baud).2 ∧
    (t.framedelay.toNat = 1750 ∨ (1822 ≤ t.framedelay.toNat ∧ t.framedelay.toNat ≤ 35000000)) ∧
    t.delay.toNat = t.chardelay.toNat * t.charcnt.toNat + t.framedelay.toNat ∧
    t.delay.toNat ≤ 7879895000000

/-! ### Invariants of every step -/

/-- Every step keeps both buffers in canonical form, from every state that has it. -/
def Obligations.StepKeepsBuffersCanonical : Prop :=
  ∀ s t : State, s.BuffersCanonical → step s = .next t → t.BuffersCanonical

/-- Every step preserves the invariants of 10_state.md R55, from every state that has them (the buffers in canonical form). The spec
marks R55 as its own inference from 41_frame_codec.md R131, R132 and 43_transport.md R174, R178. -/
def Obligations.StepKeepsExchangeInvariants : Prop :=
  ∀ s t : State, s.BuffersCanonical → s.ExchangeInv → step s = .next t → t.ExchangeInv

/-- Every step keeps the whole invariant: canonical buffers, R55, what the registers record of the last exchange (10_state.md R40, R42,
R43, R48), and the timing registers (R44, 42_timing.md R154). -/
def Obligations.StepKeepsTheInvariant : Prop :=
  ∀ s t : State, s.Inv → step s = .next t → t.Inv

/-- The power-on state satisfies the whole invariant. -/
def Obligations.ResetSatisfiesTheInvariant : Prop :=
  State.reset.Inv

/-- From every state with the invariant, a command word, legal or not, is taken in one step and returns exactly one response, with one
of the codes 0x00 to 0x06 and data 0 unless the code is OK and the command is a read (30_encoding.md R90, 60_exceptions.md R210). -/
def Obligations.EveryCommandReturnsOneResponse : Prop :=
  ∀ (s : State) (w : Word) (rest : List Input), s.Inv → s.inputs = .command w :: rest →
    ∃ (t : State) (code : Octet) (data : Word), step s = .next t ∧
      t.rspOut = s.rspOut ++ [⟨code, data⟩] ∧ t.inputs = rest ∧
      code.toNat ≤ 6 ∧ (code ≠ 0x00#8 → data = 0#32) ∧
      ((∀ k, decode w = .ok k → k.mnemonic ∉ [.CRC_READ, .READ, .READ_TX, .READ_RX]) → data = 0#32)

/-! ### Rules about the whole machine -/

/-- On an input other than RESET a register or buffer changes only by the commands and events its row of 10_state.md R32 lists as its
writers. RESET is exempt for every register and for both buffers, whose rows do not list it: 70_reset_and_hazards.md R240 leaves their
contents unspecified and the model empties them (log 6). That TX_SEND leaves the octets of RXBUF as they were, unspecified once RXLEN
is 0, is the model's choice (log 5). -/
def Obligations.RegistersChangeOnlyByTheirWriters : Prop :=
  ∀ (s t : State) (i : Input) (rest : List Input), s.inputs = i :: rest → step s = .next t →
    ∀ r : Reg, i.mayWrite r = false → r.same s t

/-- CRCGEN and FSYNC are independent: no FSYNC command, LINE_RX or WINDOW_CLOSE reads or writes CRC, and the CRCGEN commands read and
write no register but CRC (10_state.md R33, 40_checksum.md R119). -/
def Obligations.CrcgenAndFsyncAreIndependent : Prop :=
  (∀ (s t : State) (c : Crc) (i : Input) (rest : List Input),
    s.inputs = i :: rest → i ≠ .reset →
    (∀ (w : Word) (k : Instr), i = .command w → decode w = .ok k →
      k.mnemonic ∉ [.CRC_INIT, .CRC_UPDATE, .CRC_READ]) →
    step s = .next t →
    t.crc = s.crc ∧ step { s with crc := c } = .next { t with crc := c }) ∧
  ∀ (s u : State) (k : Instr), k.mnemonic ∈ [.CRC_INIT, .CRC_UPDATE, .CRC_READ] → u.crc = s.crc →
    ∃ (c : Crc) (r : Response),
      exec k s = .next { s with crc := c, rspOut := s.rspOut ++ [r] } ∧
      exec k u = .next { u with crc := c, rspOut := u.rspOut ++ [r] }

/-- LINE_OUT changes only by appending, only in a TX_SEND step that leaves IDLE and RXWAIT out, and what is appended is the whole
transmitted ADU: its body, then the CRC of the body low octet first (10_state.md R53, 41_frame_codec.md R130, 20_memory.md R73). -/
def Obligations.OnlyTxSendTransmits : Prop :=
  ∀ (s t : State), s.Inv → step s = .next t → t.lineOut ≠ s.lineOut →
    (∃ rest, s.inputs = .command 0x22000000#32 :: rest) ∧ s.state = .assemble ∧ s.closed = false ∧
    t.state = .rxwait ∧
    ∃ body, t.lineOut = s.lineOut ++ body ++ [(crc16 body).extractLsb' 0 8, (crc16 body).extractLsb' 8 8] ∧
      body = s.txbuf.octets 0 s.txlen.toNat ∧ 2 ≤ body.length ∧ body.length ≤ 254

/-- No command leaves RXWAIT, and no LINE_RX does: a step that leaves it is WINDOW_CLOSE or RESET (43_transport.md R180). -/
def Obligations.OnlyWindowCloseAndResetLeaveTheWindow : Prop :=
  ∀ (s t : State) (i : Input) (rest : List Input),
    s.inputs = i :: rest → s.state = .rxwait → step s = .next t →
    (t.state = .rxwait ↔ i ≠ .windowClose ∧ i ≠ .reset)

/-- CLOSED is 0 at reset, is set by CLOSE outside RXWAIT and by nothing else, and once set is cleared by RESET and by nothing else
(10_state.md R35). -/
def Obligations.OnlyResetReopensTheChannel : Prop :=
  State.reset.closed = false ∧
  ∀ (s t : State) (i : Input) (rest : List Input), s.inputs = i :: rest → step s = .next t →
    (s.closed = true → (t.closed = false ↔ i = .reset)) ∧
    (s.closed = false → t.closed = true → i = .command 0x30000000#32) ∧
    (i = .command 0x30000000#32 → s.state ≠ .rxwait → t.closed = true)

/-- A rejected command is precise: with a code other than OK and FRAME_TOO_LARGE nothing is written but the response, whose data is 0;
with FRAME_TOO_LARGE only the frame is discarded. WINDOW_CLOSE writes its four registers and STATE in one step (60_exceptions.md R216,
R210). That the octets of TXBUF, unspecified after FRAME_TOO_LARGE (10_state.md R41), keep what they held is the model's choice
(log 5). -/
def Obligations.RejectionsWriteNothing : Prop :=
  (∀ (s t : State) (w : Word) (rest : List Input) (code : Octet) (data : Word),
    s.inputs = .command w :: rest → step s = .next t → t.rspOut = s.rspOut ++ [⟨code, data⟩] →
    code ≠ 0x00#8 →
    data = 0#32 ∧
    (code ≠ 0x03#8 → t = { s with inputs := rest, rspOut := s.rspOut ++ [⟨code, 0#32⟩] }) ∧
    (code = 0x03#8 → t = { s with inputs := rest, rspOut := s.rspOut ++ [⟨code, 0#32⟩],
                                  txlen := 0#9, txcrc := 0xFFFF#16, state := .idle })) ∧
  ∀ (s t : State) (rest : List Input), s.inputs = .windowClose :: rest → step s = .next t →
    ∃ (r : Result) (e : Octet) (l : BitVec 9) (c : Crc),
      t = { s with inputs := rest, result := r, exc := e, framelen := l, rxcrc := c, state := .idle }

/-- The acceptance table of 60_exceptions.md R214: a command the table refuses in a state is answered STATE_ERR and changes nothing; one
the table accepts is never answered STATE_ERR. -/
def Obligations.AcceptanceByState : Prop :=
  ∀ (i : Instr) (s : State), s.Inv →
    (acceptedIn i.mnemonic s.state = false →
      exec i s = .next { s with rspOut := s.rspOut ++ [⟨0x02#8, 0#32⟩] }) ∧
    (acceptedIn i.mnemonic s.state = true →
      ∃ (t : State) (code : Octet) (data : Word),
        exec i s = .next t ∧ t.rspOut = s.rspOut ++ [⟨code, data⟩] ∧ code ≠ 0x02#8)

/-- The unspecified octets cannot be observed: from two states with canonical buffers that differ at most in TXBUF octets at or beyond
TXLEN and RXBUF octets at or beyond min(RXLEN, 256), a step ends alike, and the next states again differ at most there, so every
response, register and transmitted octet is the same (10_state.md R41, R45; 93_implementation_defined.md U1, U2). -/
def Obligations.UnspecifiedOctetsAreUnobservable : Prop :=
  ∀ s t : State, s.Inv → t.BuffersCanonical → s.SameDefined t →
    (∀ s', step s = .next s' → ∃ t', step t = .next t' ∧ s'.SameDefined t' ∧ s'.observe = t'.observe) ∧
    (∀ f, step s = .fault f → step t = .fault f)

/-! ### The checksum -/

/-- The checksum's worked values: the step and sequence examples of 40_checksum.md R111 and R112. -/
def Obligations.ChecksumWorkedValues : Prop :=
  crc16Step 0xFFFF#16 0x06#8 = 0x423F#16 ∧
  crc16 [] = 0xFFFF#16 ∧
  crc16 [0x06#8, 0x04#8, 0x00#8, 0x01#8, 0x00#8, 0x01#8] = 0xBD61#16 ∧
  crc16 [0x31#8, 0x32#8, 0x33#8, 0x34#8, 0x35#8, 0x36#8, 0x37#8, 0x38#8, 0x39#8] = 0x4B37#16

/-- The residue law: a sequence followed by its own checksum, low octet first, has checksum 0 (40_checksum.md R116,
which the spec marks as its own inference from R111 and R112). -/
def Obligations.ChecksumResidueIsZero : Prop :=
  ∀ s : List Octet,
    crc16 (s ++ [(crc16 s).extractLsb' 0 8, (crc16 s).extractLsb' 8 8]) = 0x0000#16

/-- Flipping any single bit of a sequence of any length changes its checksum (40_checksum.md R117; that it holds for every
length the spec marks as its own inference from R111). -/
def Obligations.SingleBitFlipChangesTheChecksum : Prop :=
  ∀ (before after : List Octet) (b : Octet) (k : Nat), k < 8 →
    crc16 (before ++ (b ^^^ (1#8 <<< k)) :: after) ≠ crc16 (before ++ b :: after)

/-- The step through a 256-entry table equals the eight shifts (40_checksum.md R118). -/
def Obligations.TableDrivenStepIsTheBitwiseStep : Prop :=
  ∀ (c : Crc) (b : Octet),
    crc16Step c b = (c >>> 8) ^^^ crc16Step 0x0000#16 ((c.extractLsb' 0 8) ^^^ b)

/-! ### Runs -/

/-- TX_BEGIN, at most 252 TX_DATA and TX_SEND, back to back on an open channel outside RXWAIT, are each answered (0x00, 0) and transmit
exactly station, function code, data, and the CRC of these low octet first (41_frame_codec.md R133, which the spec
marks as its own inference from R131, R132, R174 and 40_checksum.md R112). -/
def Obligations.TxFrameEmitsTheEncodedAdu : Prop :=
  ∀ (s : State) (fc : Octet) (data : List Octet) (rest : List Input),
    s.BuffersCanonical → s.state ≠ .rxwait → s.closed = false → data.length ≤ 252 →
    s.inputs = (Asm.txFrame fc data).map (fun i => Input.command (encode i)) ++ rest →
    ∃ t : State, Host.Core.run core (data.length + 2) s = .next t ∧
      let body := s.station :: fc :: data
      let adu := body ++ [(crc16 body).extractLsb' 0 8, (crc16 body).extractLsb' 8 8]
      t.lineOut = s.lineOut ++ adu ∧ t.txbuf.octets 0 t.txlen.toNat = adu ∧
      t.txlen.toNat = data.length + 4 ∧ t.state = .rxwait ∧ t.inputs = rest ∧
      t.rspOut = s.rspOut ++ List.replicate (data.length + 2) ⟨0x00#8, 0#32⟩

/-- The round trip: when the line delivers, in one window, exactly the request's own ADU, WINDOW_CLOSE gives RESULT OK, FRAMELEN equal to
TXLEN, and RXBUF[0..FRAMELEN) equal to TXBUF[0..TXLEN), for every function code (41_frame_codec.md R144, which the spec
marks as its own inference from R130 and R140). -/
def Obligations.EchoedAduIsAccepted : Prop :=
  ∀ (s : State) (rest : List Input), s.Inv → s.state = .rxwait → s.rxlen = 0#9 →
    s.inputs = (s.txbuf.octets 0 s.txlen.toNat).map Input.lineRx ++ Input.windowClose :: rest →
    ∃ t : State, Host.Core.run core (s.txlen.toNat + 1) s = .next t ∧
      t.result = .ok ∧ t.exc = 0x00#8 ∧ t.state = .idle ∧ t.framelen = s.txlen ∧ t.inputs = rest ∧
      t.rxbuf.octets 0 t.framelen.toNat = s.txbuf.octets 0 s.txlen.toNat ∧
      t.txbuf.octets 0 t.txlen.toNat = s.txbuf.octets 0 s.txlen.toNat

/-- An open window ends with an outcome: whatever octets the line delivers first, the WINDOW_CLOSE that follows leaves STATE IDLE and a
RESULT other than NONE (43_transport.md R170, R179; that WINDOW_CLOSE comes is the premise). -/
def Obligations.AnOpenWindowEndsWithAnOutcome : Prop :=
  ∀ (s : State) (octets : List Octet) (rest : List Input), s.Inv → s.state = .rxwait →
    s.inputs = octets.map Input.lineRx ++ Input.windowClose :: rest →
    ∃ t : State, Host.Core.run core (octets.length + 1) s = .next t ∧
      t.state = .idle ∧ t.result ≠ .none ∧ t.inputs = rest ∧ t.rspOut = s.rspOut ∧
      t.rxlen.toNat = min (s.rxlen.toNat + octets.length) 257

/-- TX_SEND followed at once by READ_RX: when TX_SEND is accepted, READ_RX is refused with STATE_ERR (70_reset_and_hazards.md R250,
a sentence the spec marks as its own inference). -/
def Obligations.ReadRxRightAfterTxSendIsRefused : Prop :=
  ∀ (s : State) (k : Octet) (rest : List Input), s.Inv → s.state = .assemble → s.closed = false →
    s.inputs = .command (encode .txSend) :: .command (encode (.readRx k)) :: rest →
    ∃ t : State, Host.Core.run core 2 s = .next t ∧
      t.rspOut = s.rspOut ++ [⟨0x00#8, 0#32⟩, ⟨0x02#8, 0#32⟩] ∧ t.state = .rxwait ∧
      t.result = .none ∧ t.framelen = 0#9 ∧ t.rxcrc = 0xFFFF#16

/-- CRC_BLOCK of a list of octets, of any length and from any state, leaves their crc16 in CRC and answers it last; it changes no other
register (30_encoding.md R93, 40_checksum.md R112). -/
def Obligations.CrcBlockAnswersTheChecksum : Prop :=
  ∀ (s : State) (octets : List Octet) (rest : List Input),
    s.inputs = (Asm.crcBlock octets).map (fun i => Input.command (encode i)) ++ rest →
    Host.Core.run core (octets.length + 2) s =
      .next { s with inputs := rest, crc := crc16 octets,
                     rspOut := s.rspOut ++ List.replicate (octets.length + 1) ⟨0x00#8, 0#32⟩ ++
                       [⟨0x00#8, (crc16 octets).setWidth 32⟩] }

/-- READ_DELAY with no RESET between its two reads gives the whole of DELAY, `hi * 2^32 + lo`, even while the line delivers an octet
between them (30_encoding.md R93, 70_reset_and_hazards.md R255). -/
def Obligations.ReadDelayGivesBothHalves : Prop :=
  ∀ (s : State) (octets : List Octet) (rest : List Input),
    s.inputs = .command (encode (.read RegName.DELAY_LO.number)) :: octets.map Input.lineRx ++
      .command (encode (.read RegName.DELAY_HI.number)) :: rest →
    ∃ (t : State) (lo hi : Word), Host.Core.run core (octets.length + 2) s = .next t ∧
      t.rspOut = s.rspOut ++ [⟨0x00#8, lo⟩, ⟨0x00#8, hi⟩] ∧ t.delay = s.delay ∧
      hi.toNat * 2 ^ 32 + lo.toNat = s.delay.toNat

/-- After the end of a run, whatever octets the line still delivers change nothing (70_reset_and_hazards.md R257). -/
def Obligations.LineOctetsAfterTheRunChangeNothing : Prop :=
  ∀ (s : State) (octets : List Octet), s.runEnded = true → s.inputs = octets.map Input.lineRx →
    Host.Core.run core octets.length s = .next { s with inputs := [] }
end

