-- ==== Sys2Proof/Laws/Checksum.lean ====
section
/-! SUPPORT. The laws of the checksum function: how it folds, and that one shift, one octet step and a run of steps are linear and
one-to-one in the register. -/

namespace Sys2Proof.Machine

@[simp] theorem crc16_nil : crc16 [] = 0xFFFF#16 := rfl

theorem crc16_append (s u : List Octet) : crc16 (s ++ u) = u.foldl crc16Step (crc16 s) := by
  simp [crc16, List.foldl_append]

theorem crc16_snoc (s : List Octet) (b : Octet) : crc16 (s ++ [b]) = crc16Step (crc16 s) b := by
  simp [crc16_append]

@[simp] theorem crcShift_zero : crcShift 0x0000#16 = 0x0000#16 := by decide

/-- A shift is linear over XOR. -/
theorem crcShift_xor (c d : Crc) : crcShift (c ^^^ d) = crcShift c ^^^ crcShift d := by
  unfold crcShift
  rw [BitVec.ushiftRight_xor_distrib, BitVec.getLsbD_xor]
  cases c.getLsbD 0 <;> cases d.getLsbD 0
  · rfl
  · exact BitVec.xor_assoc ..
  · change _ = c >>> 1 ^^^ Config.crcPoly ^^^ d >>> 1
    rw [BitVec.xor_assoc, BitVec.xor_assoc, BitVec.xor_comm (d >>> 1)]
    rfl
  · change c >>> 1 ^^^ d >>> 1 = c >>> 1 ^^^ Config.crcPoly ^^^ (d >>> 1 ^^^ Config.crcPoly)
    rw [BitVec.xor_comm (d >>> 1) Config.crcPoly, BitVec.xor_assoc, ← BitVec.xor_assoc Config.crcPoly,
      BitVec.xor_self, BitVec.zero_xor]

/-- Only zero shifts to zero: the polynomial's top bit marks the octets whose bit 0 was 1. -/
theorem crcShift_eq_zero {c : Crc} (h : crcShift c = 0x0000#16) : c = 0x0000#16 := by
  unfold crcShift at h
  cases hc : c.getLsbD 0
  · simp only [hc, Bool.false_eq_true, if_false] at h
    refine BitVec.eq_of_getLsbD_eq fun i hi => ?_
    match i with
    | 0 => simpa using hc
    | j + 1 =>
      have := congrArg (fun v : Crc => v.getLsbD j) h
      simpa [Nat.add_comm] using this
  · simp only [hc, if_true] at h
    have := congrArg (fun v : Crc => v.getLsbD 15) h
    simp [Config.crcPoly] at this

theorem crcShift_inj {c d : Crc} (h : crcShift c = crcShift d) : c = d := by
  have hx : crcShift (c ^^^ d) = 0x0000#16 := by rw [crcShift_xor, h, BitVec.xor_self]
  exact BitVec.xor_eq_zero_iff.1 (crcShift_eq_zero hx)

theorem crcShifts_xor (n : Nat) (c d : Crc) :
    Nat.repeat crcShift n (c ^^^ d) = Nat.repeat crcShift n c ^^^ Nat.repeat crcShift n d := by
  induction n with
  | zero => rfl
  | succ n ih => simp only [Nat.repeat, ih, crcShift_xor]

theorem crcShifts_inj {n : Nat} {c d : Crc} (h : Nat.repeat crcShift n c = Nat.repeat crcShift n d) : c = d := by
  induction n with
  | zero => exact h
  | succ n ih => exact ih (crcShift_inj h)

/-- A step is linear: the register and the octet contribute separately. -/
theorem crc16Step_eq_xor (c : Crc) (b : Octet) :
    crc16Step c b = crc16Step c 0x00#8 ^^^ crc16Step 0x0000#16 b := by
  simp [crc16Step, crcShifts_xor]

/-- Different registers stay different under the same octet. -/
theorem crc16Step_inj {c d : Crc} {b : Octet} (h : crc16Step c b = crc16Step d b) : c = d :=
  (BitVec.xor_left_inj _).1 (crcShifts_inj h)

end Sys2Proof.Machine
end

