-- ==== Sys2Proof/Laws/Decode.lean ====
section
/-! SUPPORT. The fields of a command word: a word is its opcode above its argument, and the encoder puts each where the decoder
looks (30_encoding.md R80). -/

namespace Sys2Proof

@[simp] theorem opField_append (op : Octet) (arg : BitVec 24) : opField (op ++ arg) = op := by
  refine BitVec.eq_of_getLsbD_eq fun i hi => ?_
  simp only [opField, BitVec.getLsbD_extractLsb', BitVec.getLsbD_append]
  simp [hi]

@[simp] theorem argField_append (op : Octet) (arg : BitVec 24) : argField (op ++ arg) = arg := by
  refine BitVec.eq_of_getLsbD_eq fun i hi => ?_
  simp only [argField, BitVec.getLsbD_extractLsb', BitVec.getLsbD_append]
  simp [hi]

/-- A word is its opcode above its argument. -/
theorem append_fields (w : Word) : opField w ++ argField w = w := by
  refine BitVec.eq_of_getLsbD_eq fun i hi => ?_
  simp only [opField, argField, BitVec.getLsbD_append, BitVec.getLsbD_extractLsb']
  by_cases h : i < 24
  · simp [h]
  · simp [h, show 24 + (i - 24) = i by omega, show i - 24 < 8 by omega]

@[simp] theorem opField_encode (i : Instr) : opField (encode i) = i.mnemonic.opcode := opField_append ..

@[simp] theorem argField_encode (i : Instr) : argField (encode i) = i.arg := argField_append ..

@[simp] theorem octet_of_arg (b : Octet) : (b.setWidth 24).extractLsb' 0 8 = b := by
  refine BitVec.eq_of_getLsbD_eq fun i hi => ?_
  simp only [BitVec.getLsbD_extractLsb', BitVec.getLsbD_setWidth, Nat.zero_add]
  simp [hi, show i < 24 by omega]

@[simp] theorem mbz_of_octet_arg (b : Octet) : (b.setWidth 24).extractLsb' 8 16 = 0#16 := by
  refine BitVec.eq_of_getLsbD_eq fun i hi => ?_
  simp only [BitVec.getLsbD_extractLsb', BitVec.getLsbD_setWidth]
  simp

/-- An argument whose must-be-zero bits are zero is its low octet, zero-extended. -/
theorem arg_of_octet {arg : BitVec 24} (h : arg.extractLsb' 8 16 = 0#16) :
    (arg.extractLsb' 0 8).setWidth 24 = arg := by
  refine BitVec.eq_of_getLsbD_eq fun i hi => ?_
  by_cases hi8 : i < 8
  · simp [hi8, hi]
  · have := congrArg (fun v : BitVec 16 => v.getLsbD (i - 8)) h
    simp only [BitVec.getLsbD_extractLsb', show 8 + (i - 8) = i by omega, show i - 8 < 16 by omega] at this
    have hz : arg.getLsbD i = false := by simpa using this
    rw [hz]
    simp [hi8]

/-- An argument whose must-be-zero bits are zero is its low bit, zero-extended. -/
theorem arg_of_flag {arg : BitVec 24} (h : arg.extractLsb' 1 23 = 0#23) :
    (BitVec.ofBool (arg.getLsbD 0)).setWidth 24 = arg := by
  refine BitVec.eq_of_getLsbD_eq fun i hi => ?_
  match i with
  | 0 => simp
  | j + 1 =>
    have := congrArg (fun v : BitVec 23 => v.getLsbD j) h
    simp only [BitVec.getLsbD_extractLsb', show 1 + j = j + 1 by omega, show j < 23 by omega] at this
    have hz : arg.getLsbD (j + 1) = false := by simpa using this
    rw [hz]
    simp

@[simp] theorem flag_of_arg (m : Bool) : ((BitVec.ofBool m).setWidth 24).getLsbD 0 = m := by
  cases m <;> decide

@[simp] theorem mbz_of_flag_arg (m : Bool) : ((BitVec.ofBool m).setWidth 24).extractLsb' 1 23 = 0#23 := by
  cases m <;> decide

/-- A register number is 0x00 to 0x0E exactly when it names a register (10_state.md R49). -/
theorem ofNumber_isSome : ∀ r : Octet, (RegName.ofNumber r).isSome = decide (r ≤ 0x0E#8) := by decide

@[simp] theorem ofNumber_number (r : RegName) : RegName.ofNumber r.number = some r := by cases r <;> rfl

end Sys2Proof
end

