-- ==== Sys2Proof/Laws/Memory.lean ====
section
/-! SUPPORT. The laws of the octet buffers: a read after a write, the canonical form kept by every write, and the lists of octets
read from a buffer. -/

namespace Sys2Proof.Machine.Memory

/-! ### The canonical form -/

@[simp] theorem read_nil (a : Nat) : Memory.read [] a = 0x00#8 := rfl

theorem read_cons (k : Nat) (x : Octet) (m : Memory) (a : Nat) :
    Memory.read ((k, x) :: m) a = if a < k then 0x00#8 else if a = k then x else Memory.read m a := rfl

theorem wfFrom_cons {lo k : Nat} {x : Octet} {m : Memory} :
    Memory.wfFrom lo ((k, x) :: m) = true ↔
      lo ≤ k ∧ k < 256 ∧ x ≠ 0x00#8 ∧ Memory.wfFrom (k + 1) m = true := by
  simp [Memory.wfFrom, and_assoc]

@[simp] theorem wf_nil : Memory.wf [] = true := rfl

theorem wfFrom_mono {m : Memory} {lo lo' : Nat} (h : lo' ≤ lo) (hm : Memory.wfFrom lo m = true) :
    Memory.wfFrom lo' m = true := by
  cases m with
  | nil => rfl
  | cons c m =>
    obtain ⟨k, x⟩ := c
    rw [wfFrom_cons] at hm ⊢
    exact ⟨by omega, hm.2⟩

/-- Below the bound of a canonical buffer every octet is unwritten. -/
theorem read_below {m : Memory} {lo a : Nat} (hm : Memory.wfFrom lo m = true) (ha : a < lo) :
    m.read a = 0x00#8 := by
  cases m with
  | nil => rfl
  | cons c m =>
    obtain ⟨k, x⟩ := c
    have := (wfFrom_cons.1 hm).1
    simp [read_cons, show a < k by omega]

theorem read_write_from {m : Memory} {lo : Nat} (hm : Memory.wfFrom lo m = true) (i a : Nat) (v : Octet) :
    (m.write i v).read a = if a = i then v else m.read a := by
  induction m generalizing lo with
  | nil =>
    by_cases hv : v = 0x00#8 <;> by_cases ha : a = i <;> simp [Memory.write, read_cons, hv, ha]
  | cons c m ih =>
    obtain ⟨k, x⟩ := c
    have hw := wfFrom_cons.1 hm
    have hbelow := fun h : a < k + 1 => read_below hw.2.2.2 h
    rcases Nat.lt_trichotomy i k with h | h | h
    · by_cases hv : v = 0x00#8
      · by_cases ha : a = i
        · simp [Memory.write, h, hv, read_cons, ha]
        · simp [Memory.write, h, hv, ha]
      · simp only [Memory.write, h, hv, if_true, if_false, read_cons]
        by_cases ha : a = i
        · simp [ha]
        · by_cases hai : a < i
          · simp [hai, ha, show a < k by omega]
          · simp [hai, ha]
    · subst h
      by_cases hv : v = 0x00#8
      · subst hv
        simp only [Memory.write, Nat.lt_irrefl, if_false, if_true, read_cons]
        by_cases ha : a = i
        · simp [ha, read_below hw.2.2.2 (Nat.lt_succ_self i)]
        · by_cases hai : a < i
          · simp [ha, hai, hbelow (by omega)]
          · simp [ha, hai]
      · simp only [Memory.write, Nat.lt_irrefl, hv, if_false, if_true, read_cons]
        by_cases ha : a = i
        · simp [ha]
        · simp [ha]
    · simp only [Memory.write, show ¬ i < k by omega, show i ≠ k by omega, if_false, read_cons, ih hw.2.2.2]
      by_cases ha : a = i
      · simp [ha, show ¬ i < k by omega, show i ≠ k by omega]
      · simp [ha]

/-- What a write does to every octet of a canonical buffer. -/
theorem read_write {m : Memory} (hm : m.wf = true) (i a : Nat) (v : Octet) :
    (m.write i v).read a = if a = i then v else m.read a := read_write_from hm i a v

theorem read_write_same {m : Memory} (hm : m.wf = true) (i : Nat) (v : Octet) :
    (m.write i v).read i = v := by simp [read_write hm]

theorem read_write_ne {m : Memory} (hm : m.wf = true) {i a : Nat} (h : a ≠ i) (v : Octet) :
    (m.write i v).read a = m.read a := by simp [read_write hm, h]

theorem wfFrom_write {m : Memory} {lo i : Nat} (hm : Memory.wfFrom lo m = true) (hlo : lo ≤ i) (hi : i < 256)
    (v : Octet) : Memory.wfFrom lo (m.write i v) = true := by
  induction m generalizing lo with
  | nil =>
    by_cases hv : v = 0x00#8
    · simp [Memory.write, hv, Memory.wfFrom]
    · simp only [Memory.write, hv, if_false]
      exact wfFrom_cons.2 ⟨hlo, hi, hv, rfl⟩
  | cons c m ih =>
    obtain ⟨k, x⟩ := c
    have hw := wfFrom_cons.1 hm
    simp only [Memory.write]
    split
    · split
      · exact hm
      · next h hv => exact wfFrom_cons.2 ⟨hlo, hi, hv, wfFrom_cons.2 ⟨by omega, hw.2⟩⟩
    · split
      · next h heq =>
        subst heq
        split
        · exact wfFrom_mono (by omega) hw.2.2.2
        · next hv => exact wfFrom_cons.2 ⟨hlo, hi, hv, hw.2.2.2⟩
      · exact wfFrom_cons.2 ⟨hw.1, hw.2.1, hw.2.2.1, ih hw.2.2.2 (by omega)⟩

/-- A write inside the buffer keeps the canonical form. -/
theorem wf_write {m : Memory} (hm : m.wf = true) {i : Nat} (hi : i < 256) (v : Octet) :
    (m.write i v).wf = true := wfFrom_write hm (Nat.zero_le i) hi v

theorem ext_from {m m' : Memory} {lo : Nat} (hm : Memory.wfFrom lo m = true) (hm' : Memory.wfFrom lo m' = true)
    (h : ∀ a, m.read a = m'.read a) : m = m' := by
  induction m generalizing m' lo with
  | nil =>
    cases m' with
    | nil => rfl
    | cons c m' =>
      obtain ⟨k, x⟩ := c
      have := h k
      simp [read_cons] at this
      exact absurd this.symm (wfFrom_cons.1 hm').2.2.1
  | cons c m ih =>
    obtain ⟨k, x⟩ := c
    have hw := wfFrom_cons.1 hm
    cases m' with
    | nil =>
      have := h k
      simp [read_cons] at this
      exact absurd this hw.2.2.1
    | cons c' m' =>
      obtain ⟨k', x'⟩ := c'
      have hw' := wfFrom_cons.1 hm'
      have hk : k = k' := by
        rcases Nat.lt_trichotomy k k' with hlt | heq | hgt
        · have := h k
          simp [read_cons, hlt] at this
          exact absurd this hw.2.2.1
        · exact heq
        · have := h k'
          simp [read_cons, hgt] at this
          exact absurd this.symm hw'.2.2.1
      subst hk
      have hx : x = x' := by simpa [read_cons] using h k
      subst hx
      congr 1
      refine ih hw.2.2.2 hw'.2.2.2 fun a => ?_
      by_cases ha : a < k + 1
      · rw [read_below hw.2.2.2 ha, read_below hw'.2.2.2 ha]
      · simpa [read_cons, show ¬ a < k by omega, show a ≠ k by omega] using h a

/-- Canonical buffers with the same octets are the same data. -/
theorem ext_of_read {m m' : Memory} (hm : m.wf = true) (hm' : m'.wf = true)
    (h : ∀ a, m.read a = m'.read a) : m = m' := ext_from hm hm' h

/-! ### Lists of octets -/

@[simp] theorem length_octets (m : Memory) (a b : Nat) : (m.octets a b).length = b - a := by
  simp [Memory.octets]

@[simp] theorem octets_self (m : Memory) (a : Nat) : m.octets a a = [] := by simp [Memory.octets]

@[simp] theorem getElem_octets (m : Memory) (b i : Nat) (h : i < (m.octets 0 b).length) :
    (m.octets 0 b)[i] = m.read i := by
  simp [Memory.octets]

theorem getD_octets (m : Memory) {b i : Nat} (h : i < b) (d : Octet) :
    (m.octets 0 b).getD i d = m.read i := by
  simp [List.getD, h]

theorem getD_octets_beyond (m : Memory) {b i : Nat} (h : b ≤ i) (d : Octet) :
    (m.octets 0 b).getD i d = d := by
  simp [List.getD, h]

theorem octets_succ (m : Memory) (b : Nat) : m.octets 0 (b + 1) = m.octets 0 b ++ [m.read b] := by
  simp [Memory.octets, List.range'_1_concat]

theorem octets_congr {m m' : Memory} {b : Nat} (h : ∀ a, a < b → m.read a = m'.read a) :
    m.octets 0 b = m'.octets 0 b := by
  refine List.map_congr_left fun a ha => h a ?_
  simp [List.mem_range'_1] at ha
  exact ha

/-- Two buffers with the same first octets agree below the bound. -/
theorem read_of_octets_eq {m m' : Memory} {b : Nat} (h : m.octets 0 b = m'.octets 0 b) {a : Nat} (ha : a < b) :
    m.read a = m'.read a := by
  rw [← getD_octets m ha 0x00#8, ← getD_octets m' ha 0x00#8, h]

theorem take_octets (m : Memory) {a b : Nat} (h : a ≤ b) : (m.octets 0 b).take a = m.octets 0 a := by
  refine List.ext_getElem (by simp [h]) fun i _ _ => ?_
  simp

/-- Writing at the end of a list of octets appends to it. -/
theorem octets_write_end {m : Memory} (hm : m.wf = true) (b : Nat) (v : Octet) :
    (m.write b v).octets 0 (b + 1) = m.octets 0 b ++ [v] := by
  rw [octets_succ, read_write_same hm]
  congr 1
  exact octets_congr fun a ha => read_write_ne hm (by omega) v

/-- Writing beyond a list of octets leaves it. -/
theorem octets_write_beyond {m : Memory} (hm : m.wf = true) {b i : Nat} (h : b ≤ i) (v : Octet) :
    (m.write i v).octets 0 b = m.octets 0 b :=
  octets_congr fun a ha => read_write_ne hm (by omega) v

end Sys2Proof.Machine.Memory
end

