-- ==== Sys2Proof/Laws/State.lean ====
section
/-! SUPPORT. One lemma per field per update of State: what each named update leaves in each field. -/

namespace Sys2Proof.Machine.State

/-! ### respond -/

section
variable (s : State) (code : RspCode) (data : Word)

@[simp] theorem respond_crc : (s.respond code data).crc = s.crc := rfl
@[simp] theorem respond_state : (s.respond code data).state = s.state := rfl
@[simp] theorem respond_closed : (s.respond code data).closed = s.closed := rfl
@[simp] theorem respond_result : (s.respond code data).result = s.result := rfl
@[simp] theorem respond_exc : (s.respond code data).exc = s.exc := rfl
@[simp] theorem respond_station : (s.respond code data).station = s.station := rfl
@[simp] theorem respond_baud : (s.respond code data).baud = s.baud := rfl
@[simp] theorem respond_ccFcMult : (s.respond code data).ccFcMult = s.ccFcMult := rfl
@[simp] theorem respond_txlen : (s.respond code data).txlen = s.txlen := rfl
@[simp] theorem respond_txcrc : (s.respond code data).txcrc = s.txcrc := rfl
@[simp] theorem respond_predlen : (s.respond code data).predlen = s.predlen := rfl
@[simp] theorem respond_charcnt : (s.respond code data).charcnt = s.charcnt := rfl
@[simp] theorem respond_chardelay : (s.respond code data).chardelay = s.chardelay := rfl
@[simp] theorem respond_framedelay : (s.respond code data).framedelay = s.framedelay := rfl
@[simp] theorem respond_delay : (s.respond code data).delay = s.delay := rfl
@[simp] theorem respond_rxlen : (s.respond code data).rxlen = s.rxlen := rfl
@[simp] theorem respond_framelen : (s.respond code data).framelen = s.framelen := rfl
@[simp] theorem respond_rxcrc : (s.respond code data).rxcrc = s.rxcrc := rfl
@[simp] theorem respond_txbuf : (s.respond code data).txbuf = s.txbuf := rfl
@[simp] theorem respond_rxbuf : (s.respond code data).rxbuf = s.rxbuf := rfl
@[simp] theorem respond_lineOut : (s.respond code data).lineOut = s.lineOut := rfl
@[simp] theorem respond_rspOut : (s.respond code data).rspOut = s.rspOut ++ [⟨code.toOctet, data⟩] := rfl
@[simp] theorem respond_inputs : (s.respond code data).inputs = s.inputs := rfl

end

/-! ### reject -/

section
variable (s : State) (code : RspCode)

@[simp] theorem reject_crc : (s.reject code).crc = s.crc := rfl
@[simp] theorem reject_state : (s.reject code).state = s.state := rfl
@[simp] theorem reject_closed : (s.reject code).closed = s.closed := rfl
@[simp] theorem reject_result : (s.reject code).result = s.result := rfl
@[simp] theorem reject_exc : (s.reject code).exc = s.exc := rfl
@[simp] theorem reject_station : (s.reject code).station = s.station := rfl
@[simp] theorem reject_baud : (s.reject code).baud = s.baud := rfl
@[simp] theorem reject_ccFcMult : (s.reject code).ccFcMult = s.ccFcMult := rfl
@[simp] theorem reject_txlen : (s.reject code).txlen = s.txlen := rfl
@[simp] theorem reject_txcrc : (s.reject code).txcrc = s.txcrc := rfl
@[simp] theorem reject_predlen : (s.reject code).predlen = s.predlen := rfl
@[simp] theorem reject_charcnt : (s.reject code).charcnt = s.charcnt := rfl
@[simp] theorem reject_chardelay : (s.reject code).chardelay = s.chardelay := rfl
@[simp] theorem reject_framedelay : (s.reject code).framedelay = s.framedelay := rfl
@[simp] theorem reject_delay : (s.reject code).delay = s.delay := rfl
@[simp] theorem reject_rxlen : (s.reject code).rxlen = s.rxlen := rfl
@[simp] theorem reject_framelen : (s.reject code).framelen = s.framelen := rfl
@[simp] theorem reject_rxcrc : (s.reject code).rxcrc = s.rxcrc := rfl
@[simp] theorem reject_txbuf : (s.reject code).txbuf = s.txbuf := rfl
@[simp] theorem reject_rxbuf : (s.reject code).rxbuf = s.rxbuf := rfl
@[simp] theorem reject_lineOut : (s.reject code).lineOut = s.lineOut := rfl
@[simp] theorem reject_rspOut : (s.reject code).rspOut = s.rspOut ++ [⟨code.toOctet, 0#32⟩] := rfl
@[simp] theorem reject_inputs : (s.reject code).inputs = s.inputs := rfl

end

/-! ### storeTx -/

section
variable (s : State) (i : Nat) (b : Octet)

@[simp] theorem storeTx_crc : (s.storeTx i b).crc = s.crc := rfl
@[simp] theorem storeTx_state : (s.storeTx i b).state = s.state := rfl
@[simp] theorem storeTx_closed : (s.storeTx i b).closed = s.closed := rfl
@[simp] theorem storeTx_result : (s.storeTx i b).result = s.result := rfl
@[simp] theorem storeTx_exc : (s.storeTx i b).exc = s.exc := rfl
@[simp] theorem storeTx_station : (s.storeTx i b).station = s.station := rfl
@[simp] theorem storeTx_baud : (s.storeTx i b).baud = s.baud := rfl
@[simp] theorem storeTx_ccFcMult : (s.storeTx i b).ccFcMult = s.ccFcMult := rfl
@[simp] theorem storeTx_txlen : (s.storeTx i b).txlen = s.txlen := rfl
@[simp] theorem storeTx_txcrc : (s.storeTx i b).txcrc = s.txcrc := rfl
@[simp] theorem storeTx_predlen : (s.storeTx i b).predlen = s.predlen := rfl
@[simp] theorem storeTx_charcnt : (s.storeTx i b).charcnt = s.charcnt := rfl
@[simp] theorem storeTx_chardelay : (s.storeTx i b).chardelay = s.chardelay := rfl
@[simp] theorem storeTx_framedelay : (s.storeTx i b).framedelay = s.framedelay := rfl
@[simp] theorem storeTx_delay : (s.storeTx i b).delay = s.delay := rfl
@[simp] theorem storeTx_rxlen : (s.storeTx i b).rxlen = s.rxlen := rfl
@[simp] theorem storeTx_framelen : (s.storeTx i b).framelen = s.framelen := rfl
@[simp] theorem storeTx_rxcrc : (s.storeTx i b).rxcrc = s.rxcrc := rfl
@[simp] theorem storeTx_txbuf : (s.storeTx i b).txbuf = s.txbuf.write i b := rfl
@[simp] theorem storeTx_rxbuf : (s.storeTx i b).rxbuf = s.rxbuf := rfl
@[simp] theorem storeTx_lineOut : (s.storeTx i b).lineOut = s.lineOut := rfl
@[simp] theorem storeTx_rspOut : (s.storeTx i b).rspOut = s.rspOut := rfl
@[simp] theorem storeTx_inputs : (s.storeTx i b).inputs = s.inputs := rfl

end

/-! ### storeRx -/

section
variable (s : State) (i : Nat) (b : Octet)

@[simp] theorem storeRx_crc : (s.storeRx i b).crc = s.crc := rfl
@[simp] theorem storeRx_state : (s.storeRx i b).state = s.state := rfl
@[simp] theorem storeRx_closed : (s.storeRx i b).closed = s.closed := rfl
@[simp] theorem storeRx_result : (s.storeRx i b).result = s.result := rfl
@[simp] theorem storeRx_exc : (s.storeRx i b).exc = s.exc := rfl
@[simp] theorem storeRx_station : (s.storeRx i b).station = s.station := rfl
@[simp] theorem storeRx_baud : (s.storeRx i b).baud = s.baud := rfl
@[simp] theorem storeRx_ccFcMult : (s.storeRx i b).ccFcMult = s.ccFcMult := rfl
@[simp] theorem storeRx_txlen : (s.storeRx i b).txlen = s.txlen := rfl
@[simp] theorem storeRx_txcrc : (s.storeRx i b).txcrc = s.txcrc := rfl
@[simp] theorem storeRx_predlen : (s.storeRx i b).predlen = s.predlen := rfl
@[simp] theorem storeRx_charcnt : (s.storeRx i b).charcnt = s.charcnt := rfl
@[simp] theorem storeRx_chardelay : (s.storeRx i b).chardelay = s.chardelay := rfl
@[simp] theorem storeRx_framedelay : (s.storeRx i b).framedelay = s.framedelay := rfl
@[simp] theorem storeRx_delay : (s.storeRx i b).delay = s.delay := rfl
@[simp] theorem storeRx_rxlen : (s.storeRx i b).rxlen = s.rxlen := rfl
@[simp] theorem storeRx_framelen : (s.storeRx i b).framelen = s.framelen := rfl
@[simp] theorem storeRx_rxcrc : (s.storeRx i b).rxcrc = s.rxcrc := rfl
@[simp] theorem storeRx_txbuf : (s.storeRx i b).txbuf = s.txbuf := rfl
@[simp] theorem storeRx_rxbuf : (s.storeRx i b).rxbuf = s.rxbuf.write i b := rfl
@[simp] theorem storeRx_lineOut : (s.storeRx i b).lineOut = s.lineOut := rfl
@[simp] theorem storeRx_rspOut : (s.storeRx i b).rspOut = s.rspOut := rfl
@[simp] theorem storeRx_inputs : (s.storeRx i b).inputs = s.inputs := rfl

end

/-! ### emit -/

section
variable (s : State) (octets : List Octet)

@[simp] theorem emit_crc : (s.emit octets).crc = s.crc := rfl
@[simp] theorem emit_state : (s.emit octets).state = s.state := rfl
@[simp] theorem emit_closed : (s.emit octets).closed = s.closed := rfl
@[simp] theorem emit_result : (s.emit octets).result = s.result := rfl
@[simp] theorem emit_exc : (s.emit octets).exc = s.exc := rfl
@[simp] theorem emit_station : (s.emit octets).station = s.station := rfl
@[simp] theorem emit_baud : (s.emit octets).baud = s.baud := rfl
@[simp] theorem emit_ccFcMult : (s.emit octets).ccFcMult = s.ccFcMult := rfl
@[simp] theorem emit_txlen : (s.emit octets).txlen = s.txlen := rfl
@[simp] theorem emit_txcrc : (s.emit octets).txcrc = s.txcrc := rfl
@[simp] theorem emit_predlen : (s.emit octets).predlen = s.predlen := rfl
@[simp] theorem emit_charcnt : (s.emit octets).charcnt = s.charcnt := rfl
@[simp] theorem emit_chardelay : (s.emit octets).chardelay = s.chardelay := rfl
@[simp] theorem emit_framedelay : (s.emit octets).framedelay = s.framedelay := rfl
@[simp] theorem emit_delay : (s.emit octets).delay = s.delay := rfl
@[simp] theorem emit_rxlen : (s.emit octets).rxlen = s.rxlen := rfl
@[simp] theorem emit_framelen : (s.emit octets).framelen = s.framelen := rfl
@[simp] theorem emit_rxcrc : (s.emit octets).rxcrc = s.rxcrc := rfl
@[simp] theorem emit_txbuf : (s.emit octets).txbuf = s.txbuf := rfl
@[simp] theorem emit_rxbuf : (s.emit octets).rxbuf = s.rxbuf := rfl
@[simp] theorem emit_lineOut : (s.emit octets).lineOut = s.lineOut ++ octets := rfl
@[simp] theorem emit_rspOut : (s.emit octets).rspOut = s.rspOut := rfl
@[simp] theorem emit_inputs : (s.emit octets).inputs = s.inputs := rfl

end

/-! ### beginFrame -/

section
variable (s : State) (fc : Octet)

@[simp] theorem beginFrame_crc : (s.beginFrame fc).crc = s.crc := rfl
@[simp] theorem beginFrame_state : (s.beginFrame fc).state = .assemble := rfl
@[simp] theorem beginFrame_closed : (s.beginFrame fc).closed = s.closed := rfl
@[simp] theorem beginFrame_result : (s.beginFrame fc).result = s.result := rfl
@[simp] theorem beginFrame_exc : (s.beginFrame fc).exc = s.exc := rfl
@[simp] theorem beginFrame_station : (s.beginFrame fc).station = s.station := rfl
@[simp] theorem beginFrame_baud : (s.beginFrame fc).baud = s.baud := rfl
@[simp] theorem beginFrame_ccFcMult : (s.beginFrame fc).ccFcMult = s.ccFcMult := rfl
@[simp] theorem beginFrame_txlen : (s.beginFrame fc).txlen = 2#9 := rfl
@[simp] theorem beginFrame_txcrc : (s.beginFrame fc).txcrc = crc16 [s.station, fc] := rfl
@[simp] theorem beginFrame_predlen : (s.beginFrame fc).predlen = s.predlen := rfl
@[simp] theorem beginFrame_charcnt : (s.beginFrame fc).charcnt = s.charcnt := rfl
@[simp] theorem beginFrame_chardelay : (s.beginFrame fc).chardelay = s.chardelay := rfl
@[simp] theorem beginFrame_framedelay : (s.beginFrame fc).framedelay = s.framedelay := rfl
@[simp] theorem beginFrame_delay : (s.beginFrame fc).delay = s.delay := rfl
@[simp] theorem beginFrame_rxlen : (s.beginFrame fc).rxlen = s.rxlen := rfl
@[simp] theorem beginFrame_framelen : (s.beginFrame fc).framelen = s.framelen := rfl
@[simp] theorem beginFrame_rxcrc : (s.beginFrame fc).rxcrc = s.rxcrc := rfl
@[simp] theorem beginFrame_txbuf : (s.beginFrame fc).txbuf = (s.txbuf.write 0 s.station).write 1 fc := rfl
@[simp] theorem beginFrame_rxbuf : (s.beginFrame fc).rxbuf = s.rxbuf := rfl
@[simp] theorem beginFrame_lineOut : (s.beginFrame fc).lineOut = s.lineOut := rfl
@[simp] theorem beginFrame_rspOut : (s.beginFrame fc).rspOut = s.rspOut := rfl
@[simp] theorem beginFrame_inputs : (s.beginFrame fc).inputs = s.inputs := rfl

end

/-! ### appendData -/

section
variable (s : State) (b : Octet)

@[simp] theorem appendData_crc : (s.appendData b).crc = s.crc := rfl
@[simp] theorem appendData_state : (s.appendData b).state = s.state := rfl
@[simp] theorem appendData_closed : (s.appendData b).closed = s.closed := rfl
@[simp] theorem appendData_result : (s.appendData b).result = s.result := rfl
@[simp] theorem appendData_exc : (s.appendData b).exc = s.exc := rfl
@[simp] theorem appendData_station : (s.appendData b).station = s.station := rfl
@[simp] theorem appendData_baud : (s.appendData b).baud = s.baud := rfl
@[simp] theorem appendData_ccFcMult : (s.appendData b).ccFcMult = s.ccFcMult := rfl
@[simp] theorem appendData_txlen : (s.appendData b).txlen = s.txlen + 1#9 := rfl
@[simp] theorem appendData_txcrc : (s.appendData b).txcrc = crc16Step s.txcrc b := rfl
@[simp] theorem appendData_predlen : (s.appendData b).predlen = s.predlen := rfl
@[simp] theorem appendData_charcnt : (s.appendData b).charcnt = s.charcnt := rfl
@[simp] theorem appendData_chardelay : (s.appendData b).chardelay = s.chardelay := rfl
@[simp] theorem appendData_framedelay : (s.appendData b).framedelay = s.framedelay := rfl
@[simp] theorem appendData_delay : (s.appendData b).delay = s.delay := rfl
@[simp] theorem appendData_rxlen : (s.appendData b).rxlen = s.rxlen := rfl
@[simp] theorem appendData_framelen : (s.appendData b).framelen = s.framelen := rfl
@[simp] theorem appendData_rxcrc : (s.appendData b).rxcrc = s.rxcrc := rfl
@[simp] theorem appendData_txbuf : (s.appendData b).txbuf = s.txbuf.write s.txlen.toNat b := rfl
@[simp] theorem appendData_rxbuf : (s.appendData b).rxbuf = s.rxbuf := rfl
@[simp] theorem appendData_lineOut : (s.appendData b).lineOut = s.lineOut := rfl
@[simp] theorem appendData_rspOut : (s.appendData b).rspOut = s.rspOut := rfl
@[simp] theorem appendData_inputs : (s.appendData b).inputs = s.inputs := rfl

end

/-! ### discardFrame -/

section
variable (s : State)

@[simp] theorem discardFrame_crc : s.discardFrame.crc = s.crc := rfl
@[simp] theorem discardFrame_state : s.discardFrame.state = .idle := rfl
@[simp] theorem discardFrame_closed : s.discardFrame.closed = s.closed := rfl
@[simp] theorem discardFrame_result : s.discardFrame.result = s.result := rfl
@[simp] theorem discardFrame_exc : s.discardFrame.exc = s.exc := rfl
@[simp] theorem discardFrame_station : s.discardFrame.station = s.station := rfl
@[simp] theorem discardFrame_baud : s.discardFrame.baud = s.baud := rfl
@[simp] theorem discardFrame_ccFcMult : s.discardFrame.ccFcMult = s.ccFcMult := rfl
@[simp] theorem discardFrame_txlen : s.discardFrame.txlen = 0#9 := rfl
@[simp] theorem discardFrame_txcrc : s.discardFrame.txcrc = Config.crcInit := rfl
@[simp] theorem discardFrame_predlen : s.discardFrame.predlen = s.predlen := rfl
@[simp] theorem discardFrame_charcnt : s.discardFrame.charcnt = s.charcnt := rfl
@[simp] theorem discardFrame_chardelay : s.discardFrame.chardelay = s.chardelay := rfl
@[simp] theorem discardFrame_framedelay : s.discardFrame.framedelay = s.framedelay := rfl
@[simp] theorem discardFrame_delay : s.discardFrame.delay = s.delay := rfl
@[simp] theorem discardFrame_rxlen : s.discardFrame.rxlen = s.rxlen := rfl
@[simp] theorem discardFrame_framelen : s.discardFrame.framelen = s.framelen := rfl
@[simp] theorem discardFrame_rxcrc : s.discardFrame.rxcrc = s.rxcrc := rfl
@[simp] theorem discardFrame_txbuf : s.discardFrame.txbuf = s.txbuf := rfl
@[simp] theorem discardFrame_rxbuf : s.discardFrame.rxbuf = s.rxbuf := rfl
@[simp] theorem discardFrame_lineOut : s.discardFrame.lineOut = s.lineOut := rfl
@[simp] theorem discardFrame_rspOut : s.discardFrame.rspOut = s.rspOut := rfl
@[simp] theorem discardFrame_inputs : s.discardFrame.inputs = s.inputs := rfl

end

/-! ### appendCrc -/

section
variable (s : State)

@[simp] theorem appendCrc_crc : s.appendCrc.crc = s.crc := rfl
@[simp] theorem appendCrc_state : s.appendCrc.state = s.state := rfl
@[simp] theorem appendCrc_closed : s.appendCrc.closed = s.closed := rfl
@[simp] theorem appendCrc_result : s.appendCrc.result = s.result := rfl
@[simp] theorem appendCrc_exc : s.appendCrc.exc = s.exc := rfl
@[simp] theorem appendCrc_station : s.appendCrc.station = s.station := rfl
@[simp] theorem appendCrc_baud : s.appendCrc.baud = s.baud := rfl
@[simp] theorem appendCrc_ccFcMult : s.appendCrc.ccFcMult = s.ccFcMult := rfl
@[simp] theorem appendCrc_txlen : s.appendCrc.txlen = s.txlen + 2#9 := rfl
@[simp] theorem appendCrc_txcrc : s.appendCrc.txcrc = s.txcrc := rfl
@[simp] theorem appendCrc_predlen : s.appendCrc.predlen = s.predlen := rfl
@[simp] theorem appendCrc_charcnt : s.appendCrc.charcnt = s.charcnt := rfl
@[simp] theorem appendCrc_chardelay : s.appendCrc.chardelay = s.chardelay := rfl
@[simp] theorem appendCrc_framedelay : s.appendCrc.framedelay = s.framedelay := rfl
@[simp] theorem appendCrc_delay : s.appendCrc.delay = s.delay := rfl
@[simp] theorem appendCrc_rxlen : s.appendCrc.rxlen = s.rxlen := rfl
@[simp] theorem appendCrc_framelen : s.appendCrc.framelen = s.framelen := rfl
@[simp] theorem appendCrc_rxcrc : s.appendCrc.rxcrc = s.rxcrc := rfl
@[simp] theorem appendCrc_txbuf :
    s.appendCrc.txbuf =
      (s.txbuf.write s.txlen.toNat (crcLo s.txcrc)).write (s.txlen.toNat + 1) (crcHi s.txcrc) := rfl
@[simp] theorem appendCrc_rxbuf : s.appendCrc.rxbuf = s.rxbuf := rfl
@[simp] theorem appendCrc_lineOut : s.appendCrc.lineOut = s.lineOut := rfl
@[simp] theorem appendCrc_rspOut : s.appendCrc.rspOut = s.rspOut := rfl
@[simp] theorem appendCrc_inputs : s.appendCrc.inputs = s.inputs := rfl

end

/-! ### timingUpdate -/

section
variable (s : State)

@[simp] theorem timingUpdate_crc : s.timingUpdate.crc = s.crc := rfl
@[simp] theorem timingUpdate_state : s.timingUpdate.state = s.state := rfl
@[simp] theorem timingUpdate_closed : s.timingUpdate.closed = s.closed := rfl
@[simp] theorem timingUpdate_result : s.timingUpdate.result = s.result := rfl
@[simp] theorem timingUpdate_exc : s.timingUpdate.exc = s.exc := rfl
@[simp] theorem timingUpdate_station : s.timingUpdate.station = s.station := rfl
@[simp] theorem timingUpdate_baud : s.timingUpdate.baud = s.baud := rfl
@[simp] theorem timingUpdate_ccFcMult : s.timingUpdate.ccFcMult = s.ccFcMult := rfl
@[simp] theorem timingUpdate_txlen : s.timingUpdate.txlen = s.txlen := rfl
@[simp] theorem timingUpdate_txcrc : s.timingUpdate.txcrc = s.txcrc := rfl
@[simp] theorem timingUpdate_predlen : s.timingUpdate.predlen = BitVec.ofNat 18 s.predLen := rfl
@[simp] theorem timingUpdate_charcnt : s.timingUpdate.charcnt = BitVec.ofNat 32 (s.charCount s.predLen) := rfl
@[simp] theorem timingUpdate_chardelay : s.timingUpdate.chardelay = BitVec.ofNat 32 (charFrameDelay s.baud).1 := rfl
@[simp] theorem timingUpdate_framedelay :
    s.timingUpdate.framedelay =
      BitVec.ofNat 32 (charFrameDelay s.baud).2 := rfl
@[simp] theorem timingUpdate_delay :
    s.timingUpdate.delay =
      BitVec.ofNat 64 (totalDelay (s.charCount s.predLen) (charFrameDelay s.baud).1 (charFrameDelay s.baud).2) := rfl
@[simp] theorem timingUpdate_rxlen : s.timingUpdate.rxlen = s.rxlen := rfl
@[simp] theorem timingUpdate_framelen : s.timingUpdate.framelen = s.framelen := rfl
@[simp] theorem timingUpdate_rxcrc : s.timingUpdate.rxcrc = s.rxcrc := rfl
@[simp] theorem timingUpdate_txbuf : s.timingUpdate.txbuf = s.txbuf := rfl
@[simp] theorem timingUpdate_rxbuf : s.timingUpdate.rxbuf = s.rxbuf := rfl
@[simp] theorem timingUpdate_lineOut : s.timingUpdate.lineOut = s.lineOut := rfl
@[simp] theorem timingUpdate_rspOut : s.timingUpdate.rspOut = s.rspOut := rfl
@[simp] theorem timingUpdate_inputs : s.timingUpdate.inputs = s.inputs := rfl

end

/-! ### openWindow -/

section
variable (s : State)

@[simp] theorem openWindow_crc : s.openWindow.crc = s.crc := rfl
@[simp] theorem openWindow_state : s.openWindow.state = .rxwait := rfl
@[simp] theorem openWindow_closed : s.openWindow.closed = s.closed := rfl
@[simp] theorem openWindow_result : s.openWindow.result = .none := rfl
@[simp] theorem openWindow_exc : s.openWindow.exc = 0x00#8 := rfl
@[simp] theorem openWindow_station : s.openWindow.station = s.station := rfl
@[simp] theorem openWindow_baud : s.openWindow.baud = s.baud := rfl
@[simp] theorem openWindow_ccFcMult : s.openWindow.ccFcMult = s.ccFcMult := rfl
@[simp] theorem openWindow_txlen : s.openWindow.txlen = s.txlen := rfl
@[simp] theorem openWindow_txcrc : s.openWindow.txcrc = s.txcrc := rfl
@[simp] theorem openWindow_predlen : s.openWindow.predlen = s.predlen := rfl
@[simp] theorem openWindow_charcnt : s.openWindow.charcnt = s.charcnt := rfl
@[simp] theorem openWindow_chardelay : s.openWindow.chardelay = s.chardelay := rfl
@[simp] theorem openWindow_framedelay : s.openWindow.framedelay = s.framedelay := rfl
@[simp] theorem openWindow_delay : s.openWindow.delay = s.delay := rfl
@[simp] theorem openWindow_rxlen : s.openWindow.rxlen = 0#9 := rfl
@[simp] theorem openWindow_framelen : s.openWindow.framelen = 0#9 := rfl
@[simp] theorem openWindow_rxcrc : s.openWindow.rxcrc = Config.crcInit := rfl
@[simp] theorem openWindow_txbuf : s.openWindow.txbuf = s.txbuf := rfl
@[simp] theorem openWindow_rxbuf : s.openWindow.rxbuf = s.rxbuf := rfl
@[simp] theorem openWindow_lineOut : s.openWindow.lineOut = s.lineOut := rfl
@[simp] theorem openWindow_rspOut : s.openWindow.rspOut = s.rspOut := rfl
@[simp] theorem openWindow_inputs : s.openWindow.inputs = s.inputs := rfl

end

/-! ### transmit -/

section
variable (s : State)

@[simp] theorem timingUpdate_txFrame : s.timingUpdate.txFrame = s.txFrame := rfl
@[simp] theorem transmit_crc : s.transmit.crc = s.crc := by
  simp only [transmit, openWindow_crc, emit_crc, timingUpdate_crc, appendCrc_crc]
@[simp] theorem transmit_state : s.transmit.state = .rxwait := by simp only [transmit, openWindow_state]
@[simp] theorem transmit_closed : s.transmit.closed = s.closed := by
  simp only [transmit, openWindow_closed, emit_closed, timingUpdate_closed, appendCrc_closed]
@[simp] theorem transmit_result : s.transmit.result = .none := by simp only [transmit, openWindow_result]
@[simp] theorem transmit_exc : s.transmit.exc = 0x00#8 := by simp only [transmit, openWindow_exc]
@[simp] theorem transmit_station : s.transmit.station = s.station := by
  simp only [transmit, openWindow_station, emit_station, timingUpdate_station, appendCrc_station]
@[simp] theorem transmit_baud : s.transmit.baud = s.baud := by
  simp only [transmit, openWindow_baud, emit_baud, timingUpdate_baud, appendCrc_baud]
@[simp] theorem transmit_ccFcMult : s.transmit.ccFcMult = s.ccFcMult := by
  simp only [transmit, openWindow_ccFcMult, emit_ccFcMult, timingUpdate_ccFcMult, appendCrc_ccFcMult]
@[simp] theorem transmit_txlen : s.transmit.txlen = s.txlen + 2#9 := by
  simp only [transmit, openWindow_txlen, emit_txlen, timingUpdate_txlen, appendCrc_txlen]
@[simp] theorem transmit_txcrc : s.transmit.txcrc = s.txcrc := by
  simp only [transmit, openWindow_txcrc, emit_txcrc, timingUpdate_txcrc, appendCrc_txcrc]
@[simp] theorem transmit_predlen : s.transmit.predlen = s.appendCrc.timingUpdate.predlen := by
  simp only [transmit, openWindow_predlen, emit_predlen]
@[simp] theorem transmit_charcnt : s.transmit.charcnt = s.appendCrc.timingUpdate.charcnt := by
  simp only [transmit, openWindow_charcnt, emit_charcnt]
@[simp] theorem transmit_chardelay : s.transmit.chardelay = s.appendCrc.timingUpdate.chardelay := by
  simp only [transmit, openWindow_chardelay, emit_chardelay]
@[simp] theorem transmit_framedelay : s.transmit.framedelay = s.appendCrc.timingUpdate.framedelay := by
  simp only [transmit, openWindow_framedelay, emit_framedelay]
@[simp] theorem transmit_delay : s.transmit.delay = s.appendCrc.timingUpdate.delay := by
  simp only [transmit, openWindow_delay, emit_delay]
@[simp] theorem transmit_rxlen : s.transmit.rxlen = 0#9 := by simp only [transmit, openWindow_rxlen]
@[simp] theorem transmit_framelen : s.transmit.framelen = 0#9 := by simp only [transmit, openWindow_framelen]
@[simp] theorem transmit_rxcrc : s.transmit.rxcrc = Config.crcInit := by simp only [transmit, openWindow_rxcrc]
@[simp] theorem transmit_txbuf : s.transmit.txbuf = s.appendCrc.txbuf := by
  simp only [transmit, openWindow_txbuf, emit_txbuf, timingUpdate_txbuf]
@[simp] theorem transmit_rxbuf : s.transmit.rxbuf = s.rxbuf := by
  simp only [transmit, openWindow_rxbuf, emit_rxbuf, timingUpdate_rxbuf, appendCrc_rxbuf]
@[simp] theorem transmit_lineOut : s.transmit.lineOut = s.lineOut ++ s.appendCrc.txFrame := by
  simp only [transmit, openWindow_lineOut, emit_lineOut, timingUpdate_lineOut, appendCrc_lineOut, timingUpdate_txFrame]
@[simp] theorem transmit_rspOut : s.transmit.rspOut = s.rspOut := by
  simp only [transmit, openWindow_rspOut, emit_rspOut, timingUpdate_rspOut, appendCrc_rspOut]
@[simp] theorem transmit_inputs : s.transmit.inputs = s.inputs := by
  simp only [transmit, openWindow_inputs, emit_inputs, timingUpdate_inputs, appendCrc_inputs]

end

/-! ### resetEvent -/

section
variable (s : State)

@[simp] theorem resetEvent_crc : (resetEvent s).crc = 0xFFFF#16 := rfl
@[simp] theorem resetEvent_state : (resetEvent s).state = .idle := rfl
@[simp] theorem resetEvent_closed : (resetEvent s).closed = false := rfl
@[simp] theorem resetEvent_result : (resetEvent s).result = .none := rfl
@[simp] theorem resetEvent_exc : (resetEvent s).exc = 0x00#8 := rfl
@[simp] theorem resetEvent_station : (resetEvent s).station = 0x00#8 := rfl
@[simp] theorem resetEvent_baud : (resetEvent s).baud = 0#24 := rfl
@[simp] theorem resetEvent_ccFcMult : (resetEvent s).ccFcMult = false := rfl
@[simp] theorem resetEvent_txlen : (resetEvent s).txlen = 0#9 := rfl
@[simp] theorem resetEvent_txcrc : (resetEvent s).txcrc = 0xFFFF#16 := rfl
@[simp] theorem resetEvent_predlen : (resetEvent s).predlen = 0#18 := rfl
@[simp] theorem resetEvent_charcnt : (resetEvent s).charcnt = 0#32 := rfl
@[simp] theorem resetEvent_chardelay : (resetEvent s).chardelay = 0#32 := rfl
@[simp] theorem resetEvent_framedelay : (resetEvent s).framedelay = 0#32 := rfl
@[simp] theorem resetEvent_delay : (resetEvent s).delay = 0#64 := rfl
@[simp] theorem resetEvent_rxlen : (resetEvent s).rxlen = 0#9 := rfl
@[simp] theorem resetEvent_framelen : (resetEvent s).framelen = 0#9 := rfl
@[simp] theorem resetEvent_rxcrc : (resetEvent s).rxcrc = 0xFFFF#16 := rfl
@[simp] theorem resetEvent_txbuf : (resetEvent s).txbuf = [] := rfl
@[simp] theorem resetEvent_rxbuf : (resetEvent s).rxbuf = [] := rfl
@[simp] theorem resetEvent_lineOut : (resetEvent s).lineOut = s.lineOut := rfl
@[simp] theorem resetEvent_rspOut : (resetEvent s).rspOut = s.rspOut := rfl
@[simp] theorem resetEvent_inputs : (resetEvent s).inputs = s.inputs := rfl

end

/-! ### closeWindow -/

section
variable (s : State)

@[simp] theorem closeWindow_crc : s.closeWindow.crc = s.crc := rfl
@[simp] theorem closeWindow_state : s.closeWindow.state = .idle := rfl
@[simp] theorem closeWindow_closed : s.closeWindow.closed = s.closed := rfl
@[simp] theorem closeWindow_result : s.closeWindow.result = s.checkResponse.res := rfl
@[simp] theorem closeWindow_exc : s.closeWindow.exc = s.checkResponse.exc := rfl
@[simp] theorem closeWindow_station : s.closeWindow.station = s.station := rfl
@[simp] theorem closeWindow_baud : s.closeWindow.baud = s.baud := rfl
@[simp] theorem closeWindow_ccFcMult : s.closeWindow.ccFcMult = s.ccFcMult := rfl
@[simp] theorem closeWindow_txlen : s.closeWindow.txlen = s.txlen := rfl
@[simp] theorem closeWindow_txcrc : s.closeWindow.txcrc = s.txcrc := rfl
@[simp] theorem closeWindow_predlen : s.closeWindow.predlen = s.predlen := rfl
@[simp] theorem closeWindow_charcnt : s.closeWindow.charcnt = s.charcnt := rfl
@[simp] theorem closeWindow_chardelay : s.closeWindow.chardelay = s.chardelay := rfl
@[simp] theorem closeWindow_framedelay : s.closeWindow.framedelay = s.framedelay := rfl
@[simp] theorem closeWindow_delay : s.closeWindow.delay = s.delay := rfl
@[simp] theorem closeWindow_rxlen : s.closeWindow.rxlen = s.rxlen := rfl
@[simp] theorem closeWindow_framelen : s.closeWindow.framelen = BitVec.ofNat 9 s.checkResponse.len := rfl
@[simp] theorem closeWindow_rxcrc : s.closeWindow.rxcrc = s.checkResponse.rxcrc := rfl
@[simp] theorem closeWindow_txbuf : s.closeWindow.txbuf = s.txbuf := rfl
@[simp] theorem closeWindow_rxbuf : s.closeWindow.rxbuf = s.rxbuf := rfl
@[simp] theorem closeWindow_lineOut : s.closeWindow.lineOut = s.lineOut := rfl
@[simp] theorem closeWindow_rspOut : s.closeWindow.rspOut = s.rspOut := rfl
@[simp] theorem closeWindow_inputs : s.closeWindow.inputs = s.inputs := rfl

end

end Sys2Proof.Machine.State
end

