-- ==== Sys2Proof/Laws/Exec.lean ====
section
/-! SUPPORT. Everything an instruction and a step can do, said once: `Effect` lists what a command writes beside its response,
`exec_effect` and `step_cases` invert `exec` and `step`, and the later proofs cite them instead of unfolding either. -/

namespace Sys2Proof.Machine

/-- What a command that answers `code` leaves, before its response is added. -/
inductive Effect (s : State) : Instr → RspCode → State → Prop where
  | rejected {i : Instr} {code : RspCode} (ok : code ≠ .ok) (big : code ≠ .frameTooLarge) : Effect s i code s
  | onlyAnswers {i : Instr} (h : i.mnemonic ∈ [.NOP, .CRC_READ, .READ, .READ_TX, .READ_RX]) : Effect s i .ok s
  | crcInit : Effect s .crcInit .ok { s with crc := 0xFFFF#16 }
  | crcUpdate (b : Octet) : Effect s (.crcUpdate b) .ok { s with crc := crc16Step s.crc b }
  | setStation (a : Octet) : Effect s (.setStation a) .ok { s with station := a }
  | setBaud (w : BitVec 24) : Effect s (.setBaud w) .ok { s with baud := w }
  | setMode (m : Bool) : Effect s (.setMode m) .ok { s with ccFcMult := m }
  | txBegin (fc : Octet) (h : s.state ≠ .rxwait) : Effect s (.txBegin fc) .ok (s.beginFrame fc)
  | txData (b : Octet) (h : s.state = .assemble) (room : s.txlen.toNat < 256) (full : s.txlen.toNat ≠ 254) :
      Effect s (.txData b) .ok (s.appendData b)
  | txDataFull (b : Octet) (h : s.state = .assemble) (full : s.txlen.toNat = 254) :
      Effect s (.txData b) .frameTooLarge s.discardFrame
  | txSend (h : s.state = .assemble) (isOpen : s.closed = false) (room : s.txlen.toNat ≤ 254) :
      Effect s .txSend .ok s.transmit
  | close (h : s.state ≠ .rxwait) (isOpen : s.closed = false) : Effect s .close .ok { s with closed := true }

/-- An instruction that answers a next state has one of the listed effects and adds one response, with data 0 unless it is OK. -/
theorem exec_effect {i : Instr} {s t : State} (h : exec i s = .next t) :
    ∃ (code : RspCode) (data : Word) (u : State),
      Effect s i code u ∧ (code ≠ .ok → data = 0#32) ∧ t = u.respond code data := by
  cases i with
  | nop => cases h; exact ⟨_, _, _, .onlyAnswers (by decide), fun _ => rfl, rfl⟩
  | crcInit => cases h; exact ⟨_, _, _, .crcInit, fun _ => rfl, rfl⟩
  | crcUpdate b => cases h; exact ⟨_, _, _, .crcUpdate b, fun _ => rfl, rfl⟩
  | crcRead => cases h; exact ⟨.ok, _, _, .onlyAnswers (by simp [Instr.mnemonic]), fun c => absurd rfl c, rfl⟩
  | setStation a => cases h; exact ⟨_, _, _, .setStation a, fun _ => rfl, rfl⟩
  | setBaud w => cases h; exact ⟨_, _, _, .setBaud w, fun _ => rfl, rfl⟩
  | setMode m => cases h; exact ⟨_, _, _, .setMode m, fun _ => rfl, rfl⟩
  | txBegin fc =>
    simp only [exec, execTxBegin] at h
    split at h
    · cases h; exact ⟨_, _, _, .rejected (by decide) (by decide), fun _ => rfl, rfl⟩
    · next hs => cases h; exact ⟨_, _, _, .txBegin fc hs, fun _ => rfl, rfl⟩
  | txData b =>
    simp only [exec, execTxData] at h
    split at h
    · cases h; exact ⟨_, _, _, .rejected (by decide) (by decide), fun _ => rfl, rfl⟩
    · next hs =>
      have hs := Decidable.not_not.1 hs
      split at h
      · next hf => cases h; exact ⟨_, _, _, .txDataFull b hs hf, fun _ => rfl, rfl⟩
      · split at h
        · cases h
        · next hf hr => cases h; exact ⟨_, _, _, .txData b hs (Nat.lt_of_not_le hr) hf, fun _ => rfl, rfl⟩
  | txSend =>
    simp only [exec, execTxSend] at h
    split at h
    · cases h; exact ⟨_, _, _, .rejected (by decide) (by decide), fun _ => rfl, rfl⟩
    · next hs =>
      have hs := Decidable.not_not.1 hs
      split at h
      · cases h; exact ⟨_, _, _, .rejected (by decide) (by decide), fun _ => rfl, rfl⟩
      · next hc =>
        split at h
        · cases h
        · next hr =>
          cases h
          refine ⟨_, _, _, .txSend hs (by simpa using hc) ?_, fun _ => rfl, rfl⟩
          simp only [Config.bufSize] at hr
          omega
  | close =>
    simp only [exec, execClose] at h
    split at h
    · cases h; exact ⟨_, _, _, .rejected (by decide) (by decide), fun _ => rfl, rfl⟩
    · next hc =>
      split at h
      · cases h; exact ⟨_, _, _, .rejected (by decide) (by decide), fun _ => rfl, rfl⟩
      · next hs => cases h; exact ⟨_, _, _, .close hs (by simpa using hc), fun _ => rfl, rfl⟩
  | read r =>
    simp only [exec, execRead] at h
    split at h
    · cases h; exact ⟨.ok, _, _, .onlyAnswers (by simp [Instr.mnemonic]), fun c => absurd rfl c, rfl⟩
    · cases h; exact ⟨_, _, _, .rejected (by decide) (by decide), fun _ => rfl, rfl⟩
  | readTx k =>
    simp only [exec, execReadTx] at h
    split at h
    · cases h; exact ⟨_, _, _, .rejected (by decide) (by decide), fun _ => rfl, rfl⟩
    · cases h; exact ⟨.ok, _, _, .onlyAnswers (by simp [Instr.mnemonic]), fun c => absurd rfl c, rfl⟩
  | readRx k =>
    simp only [exec, execReadRx] at h
    split at h
    · cases h; exact ⟨_, _, _, .rejected (by decide) (by decide), fun _ => rfl, rfl⟩
    · split at h
      · cases h; exact ⟨_, _, _, .rejected (by decide) (by decide), fun _ => rfl, rfl⟩
      · cases h; exact ⟨.ok, _, _, .onlyAnswers (by simp [Instr.mnemonic]), fun c => absurd rfl c, rfl⟩

/-- No instruction is refused. -/
theorem exec_not_refused (i : Instr) (s : State) (r : Refusal) : exec i s ≠ .refused r := by
  cases i <;> simp only [exec, execNop, execCrcInit, execCrcUpdate, execCrcRead, execSetStation, execSetBaud,
    execSetMode, execTxBegin, execTxData, execTxSend, execClose, execRead, execReadTx, execReadRx] <;>
    repeat' first | split | simp

/-- An instruction stops only where it would store outside TXBUF. -/
theorem exec_fault {i : Instr} {s : State} {f : Fault} (h : exec i s = .fault f) :
    f = .noSuchOctet ∧ s.state = .assemble ∧ 254 < s.txlen.toNat := by
  cases i <;> simp only [exec, execNop, execCrcInit, execCrcUpdate, execCrcRead, execSetStation, execSetBaud,
    execSetMode, execTxBegin, execTxData, execTxSend, execClose, execRead, execReadTx, execReadRx] at h
  case txData b =>
    split at h
    · cases h
    · next hs =>
      split at h
      · cases h
      · split at h
        · next hr => cases h; exact ⟨rfl, Decidable.not_not.1 hs, by simp only [Config.bufSize] at hr; omega⟩
        · cases h
  case txSend =>
    split at h
    · cases h
    · next hs =>
      split at h
      · cases h
      · split at h
        · next hr => cases h; exact ⟨rfl, Decidable.not_not.1 hs, by simp only [Config.bufSize] at hr; omega⟩
        · cases h
  all_goals repeat (first | cases h | split at h)

/-- LINE_RX: kept, dropped as overflow, or outside a window. -/
theorem lineRx_cases (b : Octet) (s : State) :
    (s.state = .rxwait ∧ s.rxlen.toNat < 256 ∧
      lineRx b s = { s.storeRx s.rxlen.toNat b with rxlen := s.rxlen + 1#9 }) ∨
    (s.state = .rxwait ∧ 256 ≤ s.rxlen.toNat ∧ lineRx b s = { s with rxlen := 257#9 }) ∨
    (s.state ≠ .rxwait ∧ lineRx b s = s) := by
  unfold lineRx
  split
  · next hs =>
    split
    · next hr => exact .inl ⟨hs, hr, rfl⟩
    · next hr => exact .inr (.inl ⟨hs, Nat.le_of_not_lt hr, rfl⟩)
  · next hs => exact .inr (.inr ⟨hs, rfl⟩)

/-- Everything a step that answers a next state can do. -/
theorem step_cases {s t : State} (h : step s = .next t) :
    (s.inputs = [] ∧ t = s) ∨
    (∃ w rest why, s.inputs = .command w :: rest ∧ decode w = .error why ∧
      t = { s with inputs := rest }.reject .illegal) ∨
    (∃ w rest i, s.inputs = .command w :: rest ∧ decode w = .ok i ∧
      exec i { s with inputs := rest } = .next t) ∨
    (∃ b rest, s.inputs = .lineRx b :: rest ∧ t = lineRx b { s with inputs := rest }) ∨
    (∃ rest, s.inputs = .windowClose :: rest ∧ s.state = .rxwait ∧ t = { s with inputs := rest }.closeWindow) ∨
    (∃ rest, s.inputs = .reset :: rest ∧ t = resetEvent { s with inputs := rest }) := by
  unfold step at h
  split at h
  · next hi => cases h; exact .inl ⟨hi, rfl⟩
  · next i rest hi =>
    cases i with
    | command w =>
      simp only [runInput, runCommand] at h
      split at h
      · next k hd => exact .inr (.inr (.inl ⟨w, rest, k, hi, hd, h⟩))
      · next why hd => cases h; exact .inr (.inl ⟨w, rest, why, hi, hd, rfl⟩)
    | lineRx b => cases h; exact .inr (.inr (.inr (.inl ⟨b, rest, hi, rfl⟩)))
    | windowClose =>
      simp only [runInput, windowClose] at h
      split at h
      · next hs => cases h; exact .inr (.inr (.inr (.inr (.inl ⟨rest, hi, hs, rfl⟩))))
      · cases h
    | reset => cases h; exact .inr (.inr (.inr (.inr (.inr ⟨rest, hi, rfl⟩))))

/-- No step at all. -/
theorem run_zero (s : State) : Host.Core.run core 0 s = .next s := rfl

/-- One step, then the rest of a run. -/
theorem run_succ {s t : State} (h : step s = .next t) (k : Nat) : Host.Core.run core (k + 1) s = Host.Core.run core k t := by
  have h' : core.step s = .next t := h
  refine (Host.Core.run.eq_2 core s k).trans ?_
  rw [h']

/-- A run in two parts. -/
theorem run_add {a : Nat} {s t : State} (h : Host.Core.run core a s = .next t) (b : Nat) :
    Host.Core.run core (a + b) s = Host.Core.run core b t := by
  induction a generalizing s with
  | zero => cases h; rw [Nat.zero_add]
  | succ a ih =>
    rw [Nat.succ_add]
    have h := (Host.Core.run.eq_2 core s a).symm.trans h
    cases hs : core.step s with
    | next u => rw [hs] at h; exact (run_succ hs (a + b)).trans (ih h)
    | fault _ => rw [hs] at h; cases h
    | refused _ => rw [hs] at h; cases h

end Sys2Proof.Machine
end

