-- ==== Sys2Proof/Laws/PerInstr.lean ====
section
/-! SUPPORT. Statements made per instruction. `EncodeMatchesRow`: the encoded word of a well-formed instruction selects the row of
the opcode map that carries its mnemonic, match, mask and READ condition together (30_encoding.md R86, R87). -/

namespace Sys2Proof.Laws.EncodeMatchesRow

def Statement (i : Instr) : Prop :=
  i.wellFormed = true →
    ∃ r ∈ opcodeTable, r.mnemonic = i.mnemonic ∧ r.selects (encode i) = true

/-- Masking a word octet of format B: only the operand is dropped. -/
theorem mask_octet (op : Octet) (b : Octet) :
    (op ++ b.setWidth 24 : Word) &&& 0xFFFFFF00#32 = op ++ 0#24 := by
  refine BitVec.eq_of_getLsbD_eq fun i hi => ?_
  have hm : (0xFFFFFF00#32 : Word).getLsbD i = decide (8 ≤ i) := by
    revert i; decide
  simp only [BitVec.getLsbD_and, BitVec.getLsbD_append, hm, BitVec.getLsbD_setWidth]
  by_cases h : i < 24 <;> by_cases h8 : 8 ≤ i <;> simp [h, h8]
  omega

theorem of_octet {i : Instr} {b : Octet} {r : OpcodeRow} (hr : r ∈ opcodeTable) (hm : r.mnemonic = i.mnemonic)
    (hk : r.mask = 0xFFFFFF00#32) (hp : r.pattern = r.mnemonic.opcode ++ 0#24)
    (he : encode i = i.mnemonic.opcode ++ b.setWidth 24) (hread : r.mnemonic ≠ .READ ∨ b ≤ 0x0E#8) :
    ∃ r ∈ opcodeTable, r.mnemonic = i.mnemonic ∧ r.selects (encode i) = true := by
  refine ⟨r, hr, hm, ?_⟩
  have hb : (encode i).extractLsb' 0 8 = b := by
    have := octet_of_arg b
    rw [← argField_append i.mnemonic.opcode (b.setWidth 24), ← he] at this
    rw [← this]
    refine BitVec.eq_of_getLsbD_eq fun j hj => ?_
    simp [argField, hj]
  simp only [OpcodeRow.selects, hk, hp, hb]
  simp only [he, mask_octet, hm]
  rw [hm] at hread
  rcases hread with h | h <;> simp [h]

theorem nop : Statement .nop := fun _ => ⟨⟨.NOP, 0x00000000#32, 0xFFFFFFFF#32⟩, by decide, rfl, by decide⟩

theorem crcInit : Statement .crcInit :=
  fun _ => ⟨⟨.CRC_INIT, 0x01000000#32, 0xFFFFFFFF#32⟩, by decide, rfl, by decide⟩

theorem crcUpdate (b : Octet) : Statement (.crcUpdate b) :=
  fun _ => of_octet (r := ⟨.CRC_UPDATE, 0x02000000#32, 0xFFFFFF00#32⟩) (by decide) rfl rfl (by decide) rfl (.inl (by decide))

theorem crcRead : Statement .crcRead :=
  fun _ => ⟨⟨.CRC_READ, 0x03000000#32, 0xFFFFFFFF#32⟩, by decide, rfl, by decide⟩

theorem setStation (a : Octet) : Statement (.setStation a) :=
  fun _ => of_octet (r := ⟨.SET_STATION, 0x10000000#32, 0xFFFFFF00#32⟩) (by decide) rfl rfl (by decide) rfl (.inl (by decide))

theorem setBaud (w : BitVec 24) : Statement (.setBaud w) := fun _ => by
  refine ⟨⟨.SET_BAUD, 0x11000000#32, 0xFF000000#32⟩, by decide, rfl, ?_⟩
  have h : (0x11#8 ++ w : Word) &&& 0xFF000000#32 = 0x11000000#32 := by
    refine BitVec.eq_of_getLsbD_eq fun i hi => ?_
    have hm : (0xFF000000#32 : Word).getLsbD i = decide (24 ≤ i) := by revert i; decide
    have hp : (0x11000000#32 : Word).getLsbD i = (decide (24 ≤ i) && (0x11#8 : Octet).getLsbD (i - 24)) := by
      revert i; decide
    simp only [BitVec.getLsbD_and, BitVec.getLsbD_append, hm, hp]
    by_cases h : i < 24
    · simp [h, show ¬ 24 ≤ i by omega]
    · simp [h, show 24 ≤ i by omega]
  simp only [OpcodeRow.selects, encode, Instr.mnemonic, Mnemonic.opcode, Instr.arg, h]
  simp

theorem setMode (m : Bool) : Statement (.setMode m) :=
  fun _ => ⟨⟨.SET_MODE, 0x12000000#32, 0xFFFFFFFE#32⟩, by decide, rfl, by cases m <;> decide⟩

theorem txBegin (fc : Octet) : Statement (.txBegin fc) :=
  fun _ => of_octet (r := ⟨.TX_BEGIN, 0x20000000#32, 0xFFFFFF00#32⟩) (by decide) rfl rfl (by decide) rfl (.inl (by decide))

theorem txData (b : Octet) : Statement (.txData b) :=
  fun _ => of_octet (r := ⟨.TX_DATA, 0x21000000#32, 0xFFFFFF00#32⟩) (by decide) rfl rfl (by decide) rfl (.inl (by decide))

theorem txSend : Statement .txSend :=
  fun _ => ⟨⟨.TX_SEND, 0x22000000#32, 0xFFFFFFFF#32⟩, by decide, rfl, by decide⟩

theorem close : Statement .close :=
  fun _ => ⟨⟨.CLOSE, 0x30000000#32, 0xFFFFFFFF#32⟩, by decide, rfl, by decide⟩

theorem read (r : Octet) : Statement (.read r) :=
  fun h => of_octet (r := ⟨.READ, 0x40000000#32, 0xFFFFFF00#32⟩) (by decide) rfl rfl (by decide) rfl
    (.inr (by simpa [Instr.wellFormed] using h))

theorem readTx (i : Octet) : Statement (.readTx i) :=
  fun _ => of_octet (r := ⟨.READ_TX, 0x41000000#32, 0xFFFFFF00#32⟩) (by decide) rfl rfl (by decide) rfl (.inl (by decide))

theorem readRx (i : Octet) : Statement (.readRx i) :=
  fun _ => of_octet (r := ⟨.READ_RX, 0x42000000#32, 0xFFFFFF00#32⟩) (by decide) rfl rfl (by decide) rfl (.inl (by decide))

end Sys2Proof.Laws.EncodeMatchesRow
end

