-- ==== Sys2Proof/Tests/Slice0.lean ====
section
/-! SUPPORT. Tests of the model against the spec's worked values (95_test_vectors.md and the examples of the rules), the
well-formedness smoke tests, and for each obligation with hypotheses a witness that meets them. Every expected value is the spec's. -/

namespace Sys2Proof.Tests

open Sys2Proof.Machine

/-! ### Helpers -/

/-- A state with one input pending. -/
def given (i : Input) (s : State) : State := { s with inputs := [i] }

/-- The next state of a step, the reset state where there is none. -/
def after (s : State) : State :=
  match step s with
  | .next t => t
  | .fault _ | .refused _ => State.reset

/-- The responses after one command word. -/
def answers (w : Word) (s : State) : List Response := (after (given (.command w) s)).rspOut

/-- The frame `06 04` under assembly (41_frame_codec.md R131, example). -/
def assembling : State :=
  { State.reset with station := 0x06#8, baud := 9600#24, state := .assemble, txbuf := [(0, 0x06#8), (1, 0x04#8)]
                     txlen := 2#9, txcrc := 0xD303#16 }

/-- The body of E5 under assembly. -/
def bodyReady : State :=
  { assembling with txbuf := [(0, 0x06#8), (1, 0x04#8), (3, 0x01#8), (5, 0x01#8)], txlen := 6#9, txcrc := 0xBD61#16 }

/-- After the TX_SEND of E5: the open window (95_test_vectors.md E5, 2.6). -/
def window : State :=
  { State.reset with
    station := 0x06#8, baud := 9600#24, state := .rxwait
    txbuf := [(0, 0x06#8), (1, 0x04#8), (3, 0x01#8), (5, 0x01#8), (6, 0x61#8), (7, 0xBD#8)]
    txlen := 8#9, txcrc := 0xBD61#16, predlen := 7#18, charcnt := 15#32, chardelay := 1562#32
    framedelay := 3645#32, delay := 27075#64
    lineOut := [0x06#8, 0x04#8, 0x00#8, 0x01#8, 0x00#8, 0x01#8, 0x61#8, 0xBD#8] }

/-- The window with received octets: the buffer as listed and RXLEN. -/
def received (octets : Memory) (n : BitVec 9) : State := { window with rxbuf := octets, rxlen := n }

/-- The response frame `06 04 02 00 C8 0D 66` (95_test_vectors.md P2). -/
def goodFrame : Memory := [(0, 0x06#8), (1, 0x04#8), (2, 0x02#8), (4, 0xC8#8), (5, 0x0D#8), (6, 0x66#8)]

/-- The exception frame `06 84 02 73 00` (95_test_vectors.md E7). -/
def exceptionFrame : Memory := [(0, 0x06#8), (1, 0x84#8), (2, 0x02#8), (3, 0x73#8)]

/-- IDLE after the exchange of P2. -/
def answered : State :=
  { received goodFrame 7#9 with state := .idle, result := .ok, framelen := 7#9, rxcrc := 0x660D#16 }

/-- What WINDOW_CLOSE records: RESULT, EXC, FRAMELEN, RXCRC and the STATUS word. -/
def outcome (s : State) : Result × Octet × BitVec 9 × Crc × Word :=
  let t := after (given .windowClose s)
  (t.result, t.exc, t.framelen, t.rxcrc, t.statusWord)

/-! ### Well-formedness -/

/-- READ of 0x0F is ill-formed (30_encoding.md R88). -/
theorem test_wellFormed_refuses_register_0F : (Instr.read 0x0F#8).wellFormed = false := by decide
theorem test_wellFormed_refuses_register_FF : (Instr.read 0xFF#8).wellFormed = false := by decide
theorem test_wellFormed_accepts_register_0E : (Instr.read 0x0E#8).wellFormed = true := by decide
theorem test_wellFormed_accepts_every_octet : (Instr.readRx 0xFF#8).wellFormed = true := by decide

/-! ### Decoding, a word of each constructor from 30_encoding.md R86 and 95_test_vectors.md 2.2, and encoding -/

theorem test_decode_nop : decode 0x00000000#32 = .ok .nop := rfl
theorem test_decode_crcInit : decode 0x01000000#32 = .ok .crcInit := rfl
theorem test_decode_crcUpdate : decode 0x020000FF#32 = .ok (.crcUpdate 0xFF#8) := rfl
theorem test_decode_crcRead : decode 0x03000000#32 = .ok .crcRead := rfl
theorem test_decode_setStation : decode 0x10000006#32 = .ok (.setStation 0x06#8) := rfl
theorem test_decode_setBaud : decode 0x11002580#32 = .ok (.setBaud 9600#24) := rfl
theorem test_decode_setMode : decode 0x12000001#32 = .ok (.setMode true) := rfl
theorem test_decode_setMode_zero : decode 0x12000000#32 = .ok (.setMode false) := rfl
theorem test_decode_txBegin : decode 0x20000080#32 = .ok (.txBegin 0x80#8) := rfl
theorem test_decode_txData : decode 0x2100006B#32 = .ok (.txData 0x6B#8) := rfl
theorem test_decode_txSend : decode 0x22000000#32 = .ok .txSend := rfl
theorem test_decode_close : decode 0x30000000#32 = .ok .close := rfl
theorem test_decode_read : decode 0x4000000E#32 = .ok (.read 0x0E#8) := rfl
theorem test_decode_readTx : decode 0x410000FF#32 = .ok (.readTx 0xFF#8) := rfl
theorem test_decode_readRx : decode 0x42000004#32 = .ok (.readRx 0x04#8) := rfl
theorem test_encode_setBaud : encode (.setBaud 19200#24) = 0x11004B00#32 := by decide
theorem test_encode_setMode : encode (.setMode true) = 0x12000001#32 := by decide
theorem test_encode_readRx : encode (.readRx 0x07#8) = 0x42000007#32 := by decide

/-- Every row of 95_test_vectors.md 2.2: the response to the word from the reset state. -/
theorem test_words_from_reset :
    [ 0x00000000#32, 0x00000100#32, 0x01000000#32, 0x020000FF#32, 0x02000100#32, 0x03000000#32, 0x100000FF#32, 0x10000100#32,
      0x11000000#32, 0x11FFFFFF#32, 0x12000001#32, 0x12000002#32, 0x12800000#32, 0x13000000#32, 0x0F000000#32 ].flatMap (answers · State.reset) =
    [ ⟨0x00#8, 0#32⟩, ⟨0x01#8, 0#32⟩, ⟨0x00#8, 0#32⟩, ⟨0x00#8, 0#32⟩, ⟨0x01#8, 0#32⟩, ⟨0x00#8, 0xFFFF#32⟩,
      ⟨0x00#8, 0#32⟩, ⟨0x01#8, 0#32⟩, ⟨0x00#8, 0#32⟩, ⟨0x00#8, 0#32⟩, ⟨0x00#8, 0#32⟩, ⟨0x01#8, 0#32⟩,
      ⟨0x01#8, 0#32⟩, ⟨0x01#8, 0#32⟩, ⟨0x01#8, 0#32⟩ ] := by decide +kernel

theorem test_more_words_from_reset :
    [ 0x20000080#32, 0x21000000#32, 0x22000000#32, 0x22000001#32, 0x30000000#32, 0x30800000#32, 0x4000000E#32, 0x4000000F#32,
      0x400001FF#32, 0x410000FF#32, 0x420000FF#32, 0x43000000#32, 0xFF000000#32, 0xFFFFFFFF#32 ].flatMap (answers · State.reset) =
    [ ⟨0x00#8, 0#32⟩, ⟨0x02#8, 0#32⟩, ⟨0x02#8, 0#32⟩, ⟨0x01#8, 0#32⟩, ⟨0x00#8, 0#32⟩, ⟨0x01#8, 0#32⟩,
      ⟨0x00#8, 0xFFFF#32⟩, ⟨0x01#8, 0#32⟩, ⟨0x01#8, 0#32⟩, ⟨0x06#8, 0#32⟩, ⟨0x06#8, 0#32⟩, ⟨0x01#8, 0#32⟩,
      ⟨0x01#8, 0#32⟩, ⟨0x01#8, 0#32⟩ ] := by decide +kernel

/-- The opcode table's own numbering, and the step the host asks for. -/
theorem test_decodeTableWord : decodeTableWord 32 0x4000000E = some (.read 0x0E#8) := by decide
theorem test_decodeTableWord_illegal : decodeTableWord 32 0x4000000F = none := by decide
theorem test_withFetchWord_runs_next :
    (after (State.reset.withFetchWord 32 0x10000006)).station = 0x06#8 := by decide

/-! ### The assembler (30_encoding.md R92, R93; 95_test_vectors.md P1 to P3) -/

theorem test_assemble_comment :
    Asm.assembleLine "SET_STATION 0x06   ; 10000006 -> (0x00, 0)".toList = some [0x10000006#32] := by decide
theorem test_assemble_decimal : Asm.assembleLine "SET_BAUD 9600".toList = some [0x11002580#32] := by decide
theorem test_assemble_register_name : Asm.assembleLine "READ DELAY_LO".toList = some [0x4000000A#32] := by decide
theorem test_assemble_out_of_range : Asm.assembleLine "TX_DATA 256".toList = none := by decide
theorem test_assemble_missing_operand : Asm.assembleLine "SET_MODE".toList = none := by decide
theorem test_assemble_tx_frame :
    Asm.assembleLine "TX_FRAME 0x03, 0x00, 0x6B".toList =
      some [0x20000003#32, 0x21000000#32, 0x2100006B#32, 0x22000000#32] := by decide
theorem test_assemble_crc_block :
    Asm.assembleLine "CRC_BLOCK 0x31,0x32".toList =
      some [0x01000000#32, 0x02000031#32, 0x02000032#32, 0x03000000#32] := by decide
theorem test_assemble_read_delay :
    Asm.assembleLine "READ_DELAY".toList = some [0x4000000A#32, 0x4000000B#32] := by decide

/-- One line in error: no words for the program (log 17). -/
theorem test_assemble_program_error : Asm.assemble ["NOP".toList, "TX_DATA 256".toList] = none := by decide
theorem test_assemble_program : Asm.assemble ["NOP".toList, "CLOSE".toList] = some [0x00000000#32, 0x30000000#32] := by decide

/-! ### The checksum (40_checksum.md R111, R112; 95_test_vectors.md 2.1) -/

/-- R111's intermediate values: the first three shifts of `0xFFFF ^ 0x0006`. -/
theorem test_crcShift_1 : crcShift 0xFFF9#16 = 0xDFFD#16 := by decide
theorem test_crcShift_2 : crcShift 0xDFFD#16 = 0xCFFF#16 := by decide
theorem test_crcShift_3 : crcShift 0xCFFF#16 = 0xC7FE#16 := by decide
theorem test_crc16Step_rows :
    [ (0xFFFF#16, 0x06#8), (0xFFFF#16, 0x00#8), (0xFFFF#16, 0xFF#8), (0x0000#16, 0x00#8), (0xC001#16, 0x00#8)
    , (0x0000#16, 0x01#8), (0x0000#16, 0x80#8) ].map (fun p => crc16Step p.1 p.2) =
    [0x423F#16, 0x40BF#16, 0x00FF#16, 0x0000#16, 0xC001#16, 0xC0C1#16, 0xA001#16] := by decide +kernel
theorem test_crc16_modbus_read :
    crc16 [0x11#8, 0x03#8, 0x00#8, 0x6B#8, 0x00#8, 0x03#8] = 0x8776#16 := by decide +kernel

/-! ### CRCGEN -/

theorem test_crcInit : (after (given (.command 0x01000000#32) { State.reset with crc := 0x1234#16 })).crc = 0xFFFF#16 := by
  decide
theorem test_crcUpdate : (after (given (.command 0x02000004#32) { State.reset with crc := 0x423F#16 })).crc = 0xD303#16 := by
  decide
theorem test_crcRead : answers 0x03000000#32 { State.reset with crc := 0xD303#16 } = [⟨0x00#8, 0x0000D303#32⟩] := by decide

/-! ### Configuration and read-out (95_test_vectors.md 2.6) -/

theorem test_setStation_read : answers 0x40000001#32 { State.reset with station := 0x06#8 } = [⟨0x00#8, 6#32⟩] := by decide
theorem test_setBaud : (after (given (.command 0x11002580#32) State.reset)).baud = 9600#24 := by decide
theorem test_setMode_read : answers 0x40000003#32 { State.reset with ccFcMult := true } = [⟨0x00#8, 1#32⟩] := by decide
theorem test_read_status_in_window : answers 0x40000000#32 window = [⟨0x00#8, 0x00000002#32⟩] := by decide
theorem test_read_delay_lo : answers 0x4000000A#32 window = [⟨0x00#8, 0x000069C3#32⟩] := by decide
theorem test_read_delay_hi_wide :
    answers 0x4000000B#32 { window with delay := 5898770000000#64 } = [⟨0x00#8, 0x0000055D#32⟩] := by decide
theorem test_readTx_last : answers 0x41000007#32 window = [⟨0x00#8, 0xBD#32⟩] := by decide
theorem test_readTx_beyond : answers 0x41000008#32 window = [⟨0x06#8, 0#32⟩] := by decide
theorem test_readRx_value : answers 0x42000004#32 answered = [⟨0x00#8, 0xC8#32⟩] := by decide
theorem test_readRx_beyond : answers 0x42000007#32 answered = [⟨0x06#8, 0#32⟩] := by decide
theorem test_readRx_window_before_index : answers 0x42000010#32 window = [⟨0x02#8, 0#32⟩] := by decide

/-! ### Assembly (41_frame_codec.md R131, R132; 95_test_vectors.md 2.3, P4) -/

theorem test_txBegin :
    (fun t : State => (t.txbuf, t.txlen, t.txcrc, t.state))
      (after (given (.command 0x20000003#32) { assembling with station := 0x09#8 })) =
      ([(0, 0x09#8), (1, 0x03#8)], 2#9, 0xE147#16, .assemble) := by decide +kernel
theorem test_txBegin_in_window : answers 0x20000011#32 window = [⟨0x02#8, 0#32⟩] := by decide
theorem test_txData :
    (fun t : State => (t.txbuf.octets 0 3, t.txlen, t.txcrc)) (after (given (.command 0x21000000#32) assembling)) =
      ([0x06#8, 0x04#8, 0x00#8], 3#9, 0x0193#16) := by decide
theorem test_txData_too_large :
    (fun t : State => (t.state, t.txlen, t.txcrc, t.rspOut))
      (after (given (.command 0x210000AA#32) { assembling with txlen := 254#9 })) =
      (.idle, 0#9, 0xFFFF#16, [⟨0x03#8, 0#32⟩]) := by decide

/-! ### TX_SEND and CLOSE (43_transport.md R174, R175; 95_test_vectors.md E3 to E5, 2.4, 2.7) -/

/-- E5: TX_SEND on its body leaves the window of E5, with all its registers. -/
theorem test_txSend_e5 :
    after (given (.command 0x22000000#32) bodyReady) = { window with rspOut := [⟨0x00#8, 0#32⟩] } := by decide
/-- E4: function code 0 with CC_FC_MULT set gives CHARCNT 0 and DELAY 3645. -/
theorem test_txSend_e4 :
    (fun t : State => (t.lineOut, t.predlen, t.charcnt, t.delay))
      (after (given (.command 0x22000000#32)
        { State.reset with station := 0x01#8, baud := 9600#24, ccFcMult := true, state := .assemble, txbuf := [(0, 0x01#8)]
                           txlen := 2#9, txcrc := crc16 [0x01#8, 0x00#8] })) =
      ([0x01#8, 0x00#8, 0x00#8, 0x20#8], 4#18, 0#32, 3645#64) := by decide +kernel
theorem test_txSend_closed : answers 0x22000000#32 { bodyReady with closed := true } = [⟨0x05#8, 0#32⟩] := by decide
theorem test_txSend_idle_closed : answers 0x22000000#32 { State.reset with closed := true } = [⟨0x02#8, 0#32⟩] := by decide
theorem test_close : (after (given (.command 0x30000000#32) answered)).closed = true := by decide
theorem test_close_again : answers 0x30000000#32 { answered with closed := true } = [⟨0x04#8, 0#32⟩] := by decide

/-- Short requests read the CRC octets as their quantity (95_test_vectors.md 2.4): `01 03 00 20 F0` and `01 03 00 01 30 18`. -/
theorem test_predLen_one_data_octet :
    ({ State.reset with txbuf := [(0, 0x01#8), (1, 0x03#8), (3, 0x20#8), (4, 0xF0#8)], txlen := 5#9 } : State).predLen = 122885 := by
  decide
theorem test_predLen_two_data_octets :
    ({ State.reset with txbuf := [(0, 0x01#8), (1, 0x03#8), (3, 0x01#8), (4, 0x30#8), (5, 0x18#8)], txlen := 6#9 } : State).predLen
      = 24629 := by decide
theorem test_charFrameDelay : charFrameDelay 300#24 = (50000, 116666) := by decide
theorem test_charFrameDelay_1200 : charFrameDelay 1200#24 = (12500, 29166) := by decide

/-! ### Events (43_transport.md R177, R178; 95_test_vectors.md 2.5, 2.8) -/

theorem test_lineRx_stores :
    (fun t : State => (t.rxbuf, t.rxlen)) (after (given (.lineRx 0x06#8) window)) = ([(0, 0x06#8)], 1#9) := by decide
theorem test_lineRx_dropped : after (given (.lineRx 0x06#8) answered) = answered := by decide
theorem test_lineRx_overflow : (after (given (.lineRx 0x06#8) (received [] 256#9))).rxlen = 257#9 := by decide
theorem test_window_no_response : outcome window = (.noResponse, 0x0B#8, 0#9, 0xFFFF#16, 0x000B0200#32) := by decide
theorem test_window_one_octet :
    outcome (received [(0, 0x06#8)] 1#9) = (.unexpectedData, 0x00#8, 0#9, 0xFFFF#16, 0x00000300#32) := by decide
theorem test_window_other_function :
    outcome (received [(0, 0x06#8), (1, 0x85#8), (2, 0x02#8)] 5#9) =
      (.unexpectedData, 0x00#8, 0#9, 0xFFFF#16, 0x00000300#32) := by decide
theorem test_window_overflow : outcome (received goodFrame 257#9) =
    (.unexpectedData, 0x00#8, 0#9, 0xFFFF#16, 0x00000300#32) := by decide
theorem test_window_two_octets :
    outcome (received [(0, 0x06#8), (1, 0x04#8)] 2#9) =
      (.responseTooShort, 0x00#8, 2#9, 0xFFFF#16, 0x00000400#32) := by decide
theorem test_window_short_exception :
    outcome (received [(0, 0x06#8), (1, 0x84#8), (2, 0x02#8)] 3#9) =
      (.responseTooShort, 0x00#8, 3#9, 0x423F#16, 0x00000400#32) := by decide
theorem test_window_station :
    outcome (received [(0, 0x07#8), (1, 0x04#8), (2, 0x02#8), (4, 0xC8#8)] 7#9) =
      (.stationMismatch, 0x00#8, 7#9, 0xA630#16, 0x00000500#32) := by decide +kernel
theorem test_window_checksum : outcome (received goodFrame 5#9) =
    (.checksumMismatch, 0x00#8, 5#9, 0xC012#16, 0x00000600#32) := by decide +kernel
theorem test_window_ok : outcome (received goodFrame 7#9) = (.ok, 0x00#8, 7#9, 0x660D#16, 0x00000100#32) := by decide +kernel
theorem test_window_exception : outcome (received exceptionFrame 5#9) =
    (.protocolException, 0x02#8, 5#9, 0x0073#16, 0x00020700#32) := by decide +kernel
theorem test_window_exception_four_octets : outcome (received exceptionFrame 4#9) =
    (.protocolException, 0x00#8, 4#9, 0x7302#16, 0x00000700#32) := by decide +kernel
theorem test_window_exception_sixth_ignored :
    outcome (received [(0, 0x06#8), (1, 0x84#8), (2, 0x02#8), (3, 0x73#8), (5, 0xFF#8)] 6#9) =
      (.protocolException, 0x02#8, 5#9, 0x0073#16, 0x00020700#32) := by decide +kernel +kernel
theorem test_reset_keeps_line_out : (after (given .reset window)).lineOut = window.lineOut := by decide
theorem test_reset_status : (after (given .reset { answered with closed := true })).statusWord = 0#32 := by decide
theorem test_exception_name : ModbusException.ofOctet 0x0B#8 = some .gatewayTargetFailedToRespond := by decide

/-! ### Witnesses: the hypotheses of each obligation are met -/

theorem assembling_buffers : assembling.BuffersCanonical := ⟨by decide, by decide⟩
theorem bodyReady_buffers : bodyReady.BuffersCanonical := ⟨by decide, by decide⟩
theorem window_buffers : window.BuffersCanonical := ⟨by decide, by decide⟩

theorem bodyReady_inv : bodyReady.Inv := by
  refine ⟨bodyReady_buffers, ?_, ?_, ⟨?_, by decide⟩⟩
  · constructor <;> decide +kernel +kernel +kernel
  · constructor <;> decide +kernel +kernel +kernel
  · exact .inl (by decide)

theorem window_inv : window.Inv := by
  refine ⟨window_buffers, ?_, ?_, ⟨?_, by decide⟩⟩
  · constructor <;> decide +kernel +kernel +kernel
  · constructor <;> decide +kernel +kernel +kernel
  · exact .inr (by decide)

theorem answered_inv : answered.Inv := by
  refine ⟨⟨by decide, by decide⟩, ?_, ?_, ⟨?_, by decide⟩⟩
  · constructor <;> decide +kernel +kernel +kernel
  · constructor <;> decide +kernel +kernel +kernel
  · exact .inr (by decide)

/-- The invariant does not speak of the inputs. -/
theorem inv_given {s : State} (h : s.Inv) (l : List Input) : State.Inv { s with inputs := l } := by
  obtain ⟨⟨b1, b2⟩, ⟨e1, e2, e3, e4, e5, e6, e7, e8, e9, e10, e11, e12⟩, ⟨r1, r2, r3, r4, r5, r6, r7⟩, ⟨t1, t2⟩⟩ := h
  exact ⟨⟨b1, b2⟩, ⟨e1, e2, e3, e4, e5, e6, e7, e8, e9, e10, e11, e12⟩, ⟨r1, r2, r3, r4, r5, r6, r7⟩, ⟨t1, t2⟩⟩

theorem witness_DecodeOfEncodeIsTheInstruction : (Instr.read 0x0E#8).wellFormed = true := by decide
theorem witness_EncodeOfDecodeIsTheWord : decode 0x4000000E#32 = .ok (.read 0x0E#8) := rfl
theorem witness_DecodeFollowsTheOpcodeMap :
    (given (.command 0x4000000F#32) window).inputs = .command 0x4000000F#32 :: [] ∧ selectRow 0x4000000F#32 = none := by decide
theorem witness_OpcodeRowsAreDisjoint :
    (⟨.READ, 0x40000000#32, 0xFFFFFF00#32⟩ : OpcodeRow) ∈ opcodeTable ∧
    0x4000000F#32 &&& 0xFFFFFF00#32 = 0x40000000#32 := by decide
theorem witness_IllegalWordsAreExactlyTheListed :
    decode 0x4000000F#32 = .error (.registerNumber 0x0F#8) ∧ decode 0x00000001#32 = .error .nonzeroArgument ∧
    decode 0x12000002#32 = .error .nonzeroArgument ∧ decode 0x42000100#32 = .error .nonzeroArgument := ⟨rfl, rfl, rfl, rfl⟩
/-- Both ends of every range of undefined opcodes (30_encoding.md R88). -/
theorem witness_undefined_opcodes :
    ∀ op ∈ [0x04#8, 0x0F#8, 0x13#8, 0x1F#8, 0x23#8, 0x2F#8, 0x31#8, 0x3F#8, 0x43#8, 0xFF#8],
      (decode (op ++ 0#24)).toOption = none := by decide
theorem witness_OperandsAreTheArgumentFields : decode 0x11FFFFFF#32 = .ok (.setBaud 0xFFFFFF#24) := rfl
theorem witness_AssembledWordHoldsOpcodeAndOperand :
    Asm.assembleWord .SET_BAUD (some 16777215) = some 0x11FFFFFF#32 ∧ Asm.assembleWord .SET_BAUD (some 16777216) = none ∧
    Asm.assembleWord .TX_DATA (some 255) = some 0x210000FF#32 ∧ Asm.assembleWord .TX_DATA (some 256) = none ∧
    Asm.assembleWord .SET_MODE (some 1) = some 0x12000001#32 ∧ Asm.assembleWord .SET_MODE (some 2) = none ∧
    Asm.assembleWord .TX_SEND none = some 0x22000000#32 ∧ Asm.assembleWord .TX_SEND (some 0) = none ∧
    Asm.assembleWord .READ none = none ∧ Mnemonic.TX_SEND ∈ [.NOP, .CRC_INIT, .CRC_READ, .TX_SEND, .CLOSE] ∧
    Mnemonic.READ ∉ [.NOP, .CRC_INIT, .CRC_READ, .TX_SEND, .CLOSE] ∧
    Mnemonic.READ ∈ [.CRC_UPDATE, .SET_STATION, .TX_BEGIN, .TX_DATA, .READ, .READ_TX, .READ_RX] := by decide
theorem witness_StepRunsTheDecodedCommand :
    (given (.command 0x22000000#32) bodyReady).inputs = .command 0x22000000#32 :: [] ∧
    decode 0x22000000#32 = .ok .txSend := ⟨rfl, rfl⟩
theorem witness_StepWithoutInputKeepsTheState :
    window.inputs = [] ∧ (0x420000FF : Nat) < 2 ^ 32 ∧ decode (BitVec.ofNat 32 0x420000FF) = .ok (.readRx 0xFF#8) :=
  ⟨rfl, by decide, rfl⟩
theorem witness_ReadAnswersEveryRegister :
    (0x00#8, window.statusWord) ∈ [(0x00#8, window.statusWord)] ∧
    (0x0E#8, window.rxcrc.setWidth 32) ∈
      [ (0x00#8, window.statusWord), (0x01#8, window.station.setWidth 32), (0x02#8, window.baud.setWidth 32)
      , (0x03#8, if window.ccFcMult then 1#32 else 0#32), (0x04#8, window.txlen.setWidth 32)
      , (0x05#8, window.txcrc.setWidth 32), (0x06#8, window.predlen.setWidth 32), (0x07#8, window.charcnt)
      , (0x08#8, window.chardelay), (0x09#8, window.framedelay), (0x0A#8, window.delay.extractLsb' 0 32)
      , (0x0B#8, window.delay.extractLsb' 32 32), (0x0C#8, window.rxlen.setWidth 32)
      , (0x0D#8, window.framelen.setWidth 32), (0x0E#8, window.rxcrc.setWidth 32) ] ∧
    (0x00000E#24).toNat ≤ 0x0E ∧ 0x0E < (0x00000F#24).toNat := by decide
theorem witness_ReadTxAnswersDefinedOctets :
    (0x07#8).toNat < window.txlen.toNat ∧ window.txlen.toNat ≤ (0x08#8).toNat := by decide
theorem witness_ReadRxAnswersDefinedOctets :
    window.state = .rxwait ∧ answered.state ≠ .rxwait ∧ (0x06#8).toNat < min answered.rxlen.toNat 256 ∧
    min answered.rxlen.toNat 256 ≤ (0x07#8).toNat ∧ (0xFF#8).toNat < min (257#9).toNat 256 := by decide
theorem witness_TxBeginStartsAFrame :
    bodyReady.BuffersCanonical ∧ bodyReady.state ≠ .rxwait ∧ window.state = .rxwait :=
  ⟨bodyReady_buffers, by decide, by decide⟩
/-- TXLEN 2, 253 and 255 take the octet, 254 discards the frame, and outside ASSEMBLE it is refused. -/
theorem witness_TxDataAppendsOneOctet :
    (∀ n ∈ [2#9, 253#9, 255#9],
      State.BuffersCanonical { assembling with txlen := n } ∧ n.toNat < 256 ∧ n.toNat ≠ 254) ∧
    assembling.state = .assemble ∧ (254#9).toNat = 254 ∧ window.state ≠ .assemble := by
  refine ⟨fun n hn => ⟨⟨assembling_buffers.tx, assembling_buffers.rx⟩, ?_⟩, by decide⟩
  revert n
  decide
theorem witness_TxSendTransmitsTheFrame :
    (∀ n ∈ [2#9, 254#9],
      State.BuffersCanonical { assembling with txlen := n } ∧ 2 ≤ n.toNat ∧ n.toNat ≤ 254) ∧
    assembling.state = .assemble ∧ assembling.closed = false ∧ window.state ≠ .assemble ∧
    (State.closed { assembling with closed := true }) = true := by
  refine ⟨fun n hn => ⟨⟨assembling_buffers.tx, assembling_buffers.rx⟩, ?_⟩, by decide⟩
  revert n
  decide
theorem witness_CloseReleasesTheChannelOnce :
    answered.closed = false ∧ answered.state ≠ .rxwait ∧ (State.closed { answered with closed := true }) = true ∧
    window.closed = false ∧ window.state = .rxwait := by decide
/-- The states the two stops speak of, and a frame under assembly that the invariants allow. -/
theorem witness_AssemblyStopsOutsideTheBuffer :
    bodyReady.ExchangeInv ∧ bodyReady.state = .assemble ∧
    assembling.state = .assemble ∧ 256 ≤ (256#9).toNat ∧ assembling.closed = false ∧ 254 < (255#9).toNat ∧
    step (given (.command 0x21000000#32) { assembling with txlen := 256#9 }) = .fault .noSuchOctet ∧
    step (given (.command 0x22000000#32) { assembling with txlen := 255#9 }) = .fault .noSuchOctet :=
  ⟨bodyReady_inv.exchange, rfl, rfl, by decide, rfl, by decide, rfl, rfl⟩
theorem witness_ReadsChangeNothingAndRepeat :
    ∀ i ∈ [Instr.nop, .crcRead, .read 0x00#8, .readTx 0x00#8, .readRx 0x00#8],
      i.mnemonic ∈ [.NOP, .CRC_READ, .READ, .READ_TX, .READ_RX] := by decide
theorem witness_LineRxFillsTheWindow :
    (given (.lineRx 0x06#8) window).inputs = .lineRx 0x06#8 :: [] ∧ window.BuffersCanonical ∧ window.state = .rxwait ∧
    (∀ n ∈ [0#9, 255#9], n.toNat < 256) ∧ (∀ n ∈ [256#9, 257#9], 256 ≤ n.toNat) ∧ answered.state ≠ .rxwait :=
  ⟨rfl, window_buffers, by decide, by decide, by decide, by decide⟩
/-- RXLEN 0, 1, 2, 256 and 257, and for each class of frame a frame that passes and one that fails each check. -/
theorem witness_WindowCloseClassifiesTheResponse :
    (given .windowClose answered).inputs = .windowClose :: [] ∧ answered.state ≠ .rxwait ∧
    (given .windowClose window).inputs = .windowClose :: [] ∧ window.state = .rxwait ∧
    (received [] 0#9).rxlen.toNat = 0 ∧ (received [] 1#9).rxlen.toNat = 1 ∧ 256 < (received [] 257#9).rxlen.toNat ∧
    2 ≤ (received [] 2#9).rxlen.toNat ∧ (received [] 256#9).rxlen.toNat ≤ 256 ∧
    (received [] 2#9).rxbuf.read 1 ≠ window.txbuf.read 1 ∧ (received [] 2#9).rxbuf.read 1 ≠ window.txbuf.read 1 ||| 0x80#8 ∧
    goodFrame.read 1 = window.txbuf.read 1 ∧ goodFrame.read 0 = window.txbuf.read 0 ∧
    exceptionFrame.read 1 = window.txbuf.read 1 ||| 0x80#8 ∧ exceptionFrame.read 1 ≠ window.txbuf.read 1 ∧
    exceptionFrame.octets 0 5 = exceptionFrame.octets 0 3 ++ crcOctets (crc16 (exceptionFrame.octets 0 3)) ∧
    goodFrame.octets 0 7 = goodFrame.octets 0 5 ++ crcOctets (crc16 (goodFrame.octets 0 5)) ∧
    goodFrame.octets 0 4 ≠ goodFrame.octets 0 2 ++ crcOctets (crc16 (goodFrame.octets 0 2)) := by decide +kernel
theorem witness_WindowCloseNeedsAnOpenWindow :
    (given .windowClose answered).inputs = .windowClose :: [] ∧ answered.state ≠ .rxwait := by decide
theorem witness_ExceptionFrameIsNeverOk :
    (∃ t, step (given .windowClose (received exceptionFrame 5#9)) = .next t ∧ t.result = .protocolException) ∧
    (∃ t, step (given .windowClose (received goodFrame 7#9)) = .next t ∧ t.result = .ok) ∧
    (received exceptionFrame 4#9).rxlen = 4#9 ∧ exceptionFrame.read 0 = window.txbuf.read 0 ∧
    exceptionFrame.read 1 = window.txbuf.read 1 ||| 0x80#8 ∧ exceptionFrame.read 1 ≠ window.txbuf.read 1 ∧
    exceptionFrame.read 2 = (crc16 [0x06#8, 0x84#8]).extractLsb' 0 8 ∧
    exceptionFrame.read 3 = (crc16 [0x06#8, 0x84#8]).extractLsb' 8 8 :=
  ⟨⟨_, rfl, by decide +kernel⟩, ⟨_, rfl, by decide +kernel⟩, by decide +kernel⟩
/-- For ResetSetsEveryRegister, PowerOnIsTheStateAfterReset and ReadsAfterReset. -/
theorem witness_ResetSetsEveryRegister : (given .reset window).inputs = .reset :: [] := rfl
theorem witness_PredictedLengthByFunctionCode :
    65535 < 65536 ∧ (∀ fc ∈ [1#8, 2#8], fc.toNat ∈ [1, 2]) ∧ (∀ fc ∈ [3#8, 4#8], fc.toNat ∈ [3, 4]) ∧
    (∀ fc ∈ [5#8, 6#8, 15#8, 16#8], fc.toNat ∈ [5, 6, 15, 16]) ∧
    (∀ fc ∈ [0#8, 7#8, 14#8, 17#8, 255#8], fc.toNat ∉ [1, 2, 3, 4, 5, 6, 15, 16]) := by decide
theorem witness_DelaysByBaudRate :
    (0#24).toNat = 0 ∧ 19200 < (19201#24).toNat ∧ 0 < (1#24).toNat ∧ (19200#24).toNat ≤ 19200 := by decide
theorem witness_TimingRegistersHoldExactValues :
    4 ≤ (State.txlen { window with txlen := 4#9 }).toNat ∧ (State.txlen { window with txlen := 256#9 }).toNat ≤ 256 := by decide
theorem witness_StepKeepsBuffersCanonical :
    State.BuffersCanonical (given (.command 0x22000000#32) bodyReady) ∧
    ∃ t, step (given (.command 0x22000000#32) bodyReady) = .next t :=
  ⟨⟨bodyReady_buffers.tx, bodyReady_buffers.rx⟩, _, rfl⟩
/-- For StepKeepsExchangeInvariants and StepKeepsTheInvariant: a step into the window, in it, and out of it. -/
theorem witness_StepKeepsTheInvariant :
    (State.Inv (given (.command 0x22000000#32) bodyReady) ∧ ∃ t, step (given (.command 0x22000000#32) bodyReady) = .next t) ∧
    (State.Inv (given (.lineRx 0x06#8) window) ∧ ∃ t, step (given (.lineRx 0x06#8) window) = .next t) ∧
    (State.Inv (given .windowClose window) ∧ ∃ t, step (given .windowClose window) = .next t) :=
  ⟨⟨inv_given bodyReady_inv _, _, rfl⟩, ⟨inv_given window_inv _, _, rfl⟩, ⟨inv_given window_inv _, _, rfl⟩⟩
theorem witness_EveryCommandReturnsOneResponse :
    State.Inv (given (.command 0x4000000F#32) window) ∧
    (given (.command 0x4000000F#32) window).inputs = .command 0x4000000F#32 :: [] ∧
    Instr.mnemonic .txSend ∉ [Mnemonic.CRC_READ, .READ, .READ_TX, .READ_RX] := ⟨inv_given window_inv _, rfl, by decide⟩
theorem witness_RegistersChangeOnlyByTheirWriters :
    (∃ t, step (given (.command 0x22000000#32) bodyReady) = .next t) ∧
    Input.mayWrite (.command 0x22000000#32) .TXCRC = false ∧ Input.mayWrite (.command 0x22000000#32) .TXLEN = true ∧
    Input.mayWrite (.command 0x22000001#32) .TXLEN = false ∧ Input.mayWrite (.lineRx 0x06#8) .CRC = false ∧
    Input.mayWrite .windowClose .TXBUF = false := ⟨⟨_, rfl⟩, by decide⟩
theorem witness_CrcgenAndFsyncAreIndependent :
    (∃ t, step (given (.command 0x22000000#32) bodyReady) = .next t) ∧
    Input.command 0x22000000#32 ≠ .reset ∧
    (∀ (w : Word) (k : Instr), Input.command 0x22000000#32 = .command w → decode w = .ok k →
      k.mnemonic ∉ [.CRC_INIT, .CRC_UPDATE, .CRC_READ]) ∧
    Instr.mnemonic (.crcUpdate 0x06#8) ∈ [Mnemonic.CRC_INIT, .CRC_UPDATE, .CRC_READ] ∧ window.crc = State.reset.crc := by
  refine ⟨⟨_, rfl⟩, by decide, ?_, by decide, by decide⟩
  intro w k hw hd
  injection hw with hw
  subst hw
  injection hd with hd
  subst hd
  decide
theorem witness_OnlyTxSendTransmits :
    State.Inv (given (.command 0x22000000#32) bodyReady) ∧
    ∃ t, step (given (.command 0x22000000#32) bodyReady) = .next t ∧
      t.lineOut ≠ (given (.command 0x22000000#32) bodyReady).lineOut := ⟨inv_given bodyReady_inv _, _, rfl, by decide⟩
/-- A command, an octet, WINDOW_CLOSE and RESET in the window. -/
theorem witness_OnlyWindowCloseAndResetLeaveTheWindow :
    window.state = .rxwait ∧ (∃ t, step (given (.command 0x22000000#32) window) = .next t) ∧
    (∃ t, step (given (.lineRx 0x06#8) window) = .next t) ∧ (∃ t, step (given .windowClose window) = .next t) ∧
    ∃ t, step (given .reset window) = .next t := ⟨rfl, ⟨_, rfl⟩, ⟨_, rfl⟩, ⟨_, rfl⟩, _, rfl⟩
theorem witness_OnlyResetReopensTheChannel :
    (∃ t, step (given .reset { answered with closed := true }) = .next t) ∧ answered.closed = false ∧
    ∃ t, step (given (.command 0x30000000#32) answered) = .next t ∧ t.closed = true :=
  ⟨⟨_, rfl⟩, rfl, _, rfl, by decide⟩
theorem witness_RejectionsWriteNothing :
    (∃ t, step (given (.command 0x22000000#32) window) = .next t ∧ t.rspOut = window.rspOut ++ [⟨0x02#8, 0#32⟩]) ∧
    (∃ t, step (given (.command 0x21000000#32) { assembling with txlen := 254#9 }) = .next t ∧
      t.rspOut = assembling.rspOut ++ [⟨0x03#8, 0#32⟩]) ∧
    ∃ t, step (given .windowClose window) = .next t := ⟨⟨_, rfl, by decide⟩, ⟨_, rfl, by decide⟩, _, rfl⟩
theorem witness_AcceptanceByState :
    window.Inv ∧ acceptedIn .CLOSE window.state = false ∧ bodyReady.Inv ∧ acceptedIn .TX_SEND bodyReady.state = true :=
  ⟨window_inv, by decide, bodyReady_inv, by decide⟩
/-- Two different states that hold the same defined octets, a step of one, and a stop of one. -/
theorem witness_UnspecifiedOctetsAreUnobservable :
    bodyReady.Inv ∧
    State.BuffersCanonical { bodyReady with txbuf := bodyReady.txbuf ++ [(200, 0x55#8)], rxbuf := [(3, 0x77#8)] } ∧
    bodyReady.SameDefined { bodyReady with txbuf := bodyReady.txbuf ++ [(200, 0x55#8)], rxbuf := [(3, 0x77#8)] } ∧
    (∃ t, step (given (.command 0x22000000#32) bodyReady) = .next t) ∧
    step (given .windowClose bodyReady) = .fault .windowCloseNotEnabled :=
  ⟨bodyReady_inv, ⟨by decide, by decide⟩, ⟨rfl, by decide, by decide⟩, ⟨_, rfl⟩, rfl⟩
theorem witness_SingleBitFlipChangesTheChecksum : 7 < 8 := by decide
theorem witness_TxFrameEmitsTheEncodedAdu :
    answered.BuffersCanonical ∧ answered.state ≠ .rxwait ∧ answered.closed = false ∧
    (List.replicate 252 (0x55#8 : Octet)).length ≤ 252 :=
  ⟨answered_inv.buffers, by decide, by decide, Nat.le_of_eq List.length_replicate⟩
theorem witness_EchoedAduIsAccepted : window.Inv ∧ window.state = .rxwait ∧ window.rxlen = 0#9 :=
  ⟨window_inv, rfl, rfl⟩
/-- For AnOpenWindowEndsWithAnOutcome: no octet at all, and more than the buffer holds. -/
theorem witness_AnOpenWindowEndsWithAnOutcome :
    (∀ octets ∈ [[], List.replicate 300 (0x06#8 : Octet)],
      State.Inv { window with inputs := octets.map Input.lineRx ++ [.windowClose] }) ∧ window.state = .rxwait :=
  ⟨fun _ _ => inv_given window_inv _, rfl⟩
theorem witness_ReadRxRightAfterTxSendIsRefused :
    State.Inv { bodyReady with inputs := [.command (encode .txSend), .command (encode (.readRx 0x00#8))] } ∧
    bodyReady.state = .assemble ∧ bodyReady.closed = false := ⟨inv_given bodyReady_inv _, rfl, rfl⟩
theorem witness_CrcBlockAnswersTheChecksum :
    (State.inputs { window with inputs := (Asm.crcBlock [0x31#8]).map (fun i => Input.command (encode i)) ++ [] }) =
      [.command 0x01000000#32, .command 0x02000031#32, .command 0x03000000#32] := by decide
theorem witness_ReadDelayGivesBothHalves :
    (State.inputs { window with
      inputs := .command (encode (.read RegName.DELAY_LO.number)) :: [0x06#8].map Input.lineRx ++
        [.command (encode (.read RegName.DELAY_HI.number))] }) =
      [.command 0x4000000A#32, .lineRx 0x06#8, .command 0x4000000B#32] := by decide
theorem witness_LineOctetsAfterTheRunChangeNothing :
    (State.runEnded { answered with inputs := [0x06#8].map Input.lineRx }) = true := by decide

end Sys2Proof.Tests
end

/-! SUPPORT. The STATUS word (10_state.md R50): the word is the concatenation of its fields, so each field is read off by cutting
the concatenation where the field begins. -/

namespace Sys2Proof.Machine

/-- The fields of the STATUS word, one above the other (10_state.md R50). -/
def State.statusFields (s : State) : BitVec (8 + 8 + 4 + 4 + 5 + 1 + 2) :=
  0#8 ++ s.exc ++ 0#4 ++ s.result.code ++ 0#5 ++ BitVec.ofBool s.closed ++ s.state.code

theorem statusWord_eq_statusFields (s : State) : s.statusWord = s.statusFields := by
  refine BitVec.eq_of_getLsbD_eq fun i hi => ?_
  simp only [State.statusWord, State.statusFields, BitVec.getLsbD_or, BitVec.getLsbD_append,
    BitVec.getLsbD_shiftLeft, BitVec.getLsbD_setWidth]
  interval_cases i <;> simp

/-- A part of the STATUS word, at the width that still shows the fields. -/
theorem extractLsb'_statusWord (s : State) (start len : Nat) :
    s.statusWord.extractLsb' start len = s.statusFields.extractLsb' start len :=
  congrArg (BitVec.extractLsb' start len) (statusWord_eq_statusFields s)

theorem getLsbD_statusWord (s : State) (i : Nat) : s.statusWord.getLsbD i = s.statusFields.getLsbD i :=
  congrArg (BitVec.getLsbD · i) (statusWord_eq_statusFields s)

/-- Settles O17: cutting `statusFields` where a field begins leaves that field. The widths stay sums of the fields' widths
(`-Nat.reduceAdd`), which is what the cutting lemmas read. -/
theorem statusWordLayout : Obligations.StatusWordLayout := by
  refine ⟨fun s => ?_, by decide⟩
  simp (disch := decide) only [extractLsb'_statusWord, getLsbD_statusWord, State.statusFields,
    BitVec.extractLsb'_append_eq_of_le, BitVec.extractLsb'_append_eq_of_add_le, BitVec.getLsbD_append, -Nat.reduceAdd]
  refine ⟨?state, ?closed, rfl, ?result, rfl, ?exc, rfl⟩
  case state => cases s.state <;> rfl
  case closed => simp
  case result => cases s.result <;> rfl
  case exc => exact BitVec.extractLsb'_eq_self

end Sys2Proof.Machine

/-! SUPPORT. What a word that decodes is: the encoded word of its instruction, so an instruction without operand has one word
(30_encoding.md R80 to R86). -/

namespace Sys2Proof

theorem formatZ_eq_ok {arg : BitVec 24} {i j : Instr} (h : formatZ arg i = .ok j) : j = i ∧ arg = 0#24 := by
  unfold formatZ at h
  split at h
  · next hz => cases h; exact ⟨rfl, hz⟩
  · cases h

theorem formatB_eq_ok {arg : BitVec 24} {mk : Octet → Instr} {j : Instr} (h : formatB arg mk = .ok j) :
    ∃ b : Octet, j = mk b ∧ b.setWidth 24 = arg := by
  unfold formatB at h
  split at h
  · next hz => cases h; exact ⟨_, rfl, arg_of_octet hz⟩
  · cases h

theorem formatM_eq_ok {arg : BitVec 24} {mk : Bool → Instr} {j : Instr} (h : formatM arg mk = .ok j) :
    ∃ m : Bool, j = mk m ∧ (BitVec.ofBool m).setWidth 24 = arg := by
  unfold formatM at h
  split at h
  · next hz => cases h; exact ⟨_, rfl, arg_of_flag hz⟩
  · cases h

theorem formatRead_eq_ok {arg : BitVec 24} {j : Instr} (h : formatRead arg = .ok j) :
    ∃ r : Octet, j = .read r ∧ r ≤ 0x0E#8 ∧ r.setWidth 24 = arg := by
  unfold formatRead at h
  split at h
  · next hz =>
    split at h
    · next hr => cases h; exact ⟨_, rfl, hr, arg_of_octet hz⟩
    · cases h
  · cases h

/-- A word is the encoding of every instruction that has its two fields. -/
theorem encode_eq_of_fields {i : Instr} {w : Word} (hop : opField w = i.mnemonic.opcode) (harg : i.arg = argField w) :
    encode i = w := by
  rw [encode, ← hop, harg, append_fields]

/-- A word decodes to an instruction whose encoding is that word. -/
theorem encode_of_decode_eq_ok {w : Word} {i : Instr} (h : decode w = .ok i) : encode i = w := by
  unfold decode at h
  split at h
  -- format W: SET_BAUD
  case h_6 hop => cases h; exact encode_eq_of_fields hop rfl
  -- format M: SET_MODE
  case h_7 hop => obtain ⟨m, rfl, ha⟩ := formatM_eq_ok h; exact encode_eq_of_fields hop ha
  -- READ
  case h_12 hop => obtain ⟨r, rfl, -, ha⟩ := formatRead_eq_ok h; exact encode_eq_of_fields hop ha
  -- an opcode outside the map
  case h_15 => cases h
  -- format Z: NOP, CRC_INIT, CRC_READ, TX_SEND, CLOSE
  case h_1 | h_2 | h_4 | h_10 | h_11 =>
    next hop => obtain ⟨rfl, ha⟩ := formatZ_eq_ok h; exact encode_eq_of_fields hop ha.symm
  -- format B: every other row
  all_goals next hop => obtain ⟨b, rfl, ha⟩ := formatB_eq_ok h; exact encode_eq_of_fields hop ha

theorem decode_eq_close_iff {w : Word} : decode w = .ok .close ↔ w = 0x30000000#32 :=
  ⟨fun h => (encode_of_decode_eq_ok h).symm, fun h => h ▸ rfl⟩

end Sys2Proof

/-! SUPPORT. CLOSED after every instruction and every input (10_state.md R35): one equation each, of which the statement is three
readings. -/

namespace Sys2Proof.Machine

/-- Every effect but CLOSE's keeps CLOSED. -/
theorem Effect.closed_eq {s u : State} {i : Instr} {code : RspCode} (e : Effect s i code u) (hi : i ≠ .close) :
    u.closed = s.closed := by
  cases e <;> simp at hi ⊢

/-- CLOSE outside RXWAIT leaves the channel closed, whether it closes it or finds it closed. -/
theorem exec_close_closed {s t : State} (h : exec .close s = .next t) :
    t.closed = (s.closed || decide (s.state ≠ .rxwait)) := by
  simp only [exec, execClose] at h
  split at h
  · next hc => cases h; simp [hc]
  · split at h
    · next hs => cases h; simp [hs]
    · next hs => cases h; simp [hs]

/-- CLOSED after an instruction. -/
theorem exec_closed {i : Instr} {s t : State} (h : exec i s = .next t) :
    t.closed = (s.closed || decide (i = .close) && decide (s.state ≠ .rxwait)) := by
  by_cases hi : i = .close
  · subst hi
    simpa using exec_close_closed h
  · obtain ⟨code, data, u, e, -, rfl⟩ := exec_effect h
    simp [e.closed_eq hi, hi]

@[simp] theorem lineRx_closed (b : Octet) (s : State) : (lineRx b s).closed = s.closed := by
  obtain ⟨-, -, h⟩ | ⟨-, -, h⟩ | ⟨-, h⟩ := lineRx_cases b s <;> rw [h]
  rfl

/-- CLOSED after an input is taken: RESET clears it, the CLOSE word sets it outside RXWAIT, and every other input keeps it. -/
def closedAfter (s : State) : Input → Bool
  | .reset => false
  | .command w => s.closed || decide (w = 0x30000000#32) && decide (s.state ≠ .rxwait)
  | .lineRx _ | .windowClose => s.closed

/-- `closedAfter` is what a step leaves in CLOSED. -/
theorem step_closed {s t : State} {i : Input} {rest : List Input} (hi : s.inputs = i :: rest)
    (h : step s = .next t) : t.closed = closedAfter s i := by
  obtain ⟨hs, -⟩ | ⟨w, r, why, hs, hd, rfl⟩ | ⟨w, r, k, hs, hd, he⟩ | ⟨b, r, hs, rfl⟩ | ⟨r, hs, -, rfl⟩ | ⟨r, hs, rfl⟩ :=
    step_cases h <;> rw [hi] at hs <;> cases hs
  next => -- an illegal word
    have hw : w ≠ 0x30000000#32 := fun hw => by cases hd.symm.trans (decode_eq_close_iff.2 hw)
    simp [closedAfter, hw]
  next => -- a command
    have hw : k = .close ↔ w = 0x30000000#32 := by rw [← decode_eq_close_iff, hd, Except.ok.injEq]
    simp [exec_closed he, closedAfter, hw]
  · exact lineRx_closed b _
  · rfl
  · rfl

/-- Settles O45, from the value `step_closed` gives CLOSED after each input. -/
theorem onlyResetReopensTheChannel : Obligations.OnlyResetReopensTheChannel := by
  refine ⟨rfl, fun s t i rest hi h => ?_⟩
  rw [step_closed hi h]
  refine ⟨fun hc => ?_, fun hc ht => ?_, fun hclose hs => ?_⟩
  · cases i <;> simp [closedAfter, hc]
  · cases i with
    | command w =>
      have hw : w = 0x30000000#32 ∧ s.state ≠ .rxwait := by simpa [closedAfter, hc] using ht
      rw [hw.1]
    | reset => cases ht
    | lineRx _ | windowClose => cases hc.symm.trans ht
  · simp [hclose, closedAfter, hs]

end Sys2Proof.Machine

/-! SUPPORT. The loop over the opcode map by the two fields of a word: only the row of the word's opcode can be selected, and it
is when the must-be-zero bits of the argument are zero (30_encoding.md R86, R87). -/

namespace Sys2Proof

/-- Every row asks for the whole opcode of its mnemonic. -/
theorem opcodeTable_opcode : ∀ r ∈ opcodeTable, opField r.mask = 0xFF#8 ∧ opField r.pattern = r.mnemonic.opcode := by
  decide

theorem opcodeTable_opcode_injective :
    ∀ r₁ ∈ opcodeTable, ∀ r₂ ∈ opcodeTable, r₁.mnemonic.opcode = r₂.mnemonic.opcode → r₁ = r₂ := by
  decide

theorem opField_of_selects {r : OpcodeRow} {w : Word} (hr : r ∈ opcodeTable) (h : r.selects w = true) :
    opField w = r.mnemonic.opcode := by
  obtain ⟨hmask, hpattern⟩ := opcodeTable_opcode r hr
  simp only [OpcodeRow.selects, Bool.and_eq_true, decide_eq_true_eq] at h
  obtain ⟨hand, -⟩ := h
  calc opField w = opField w &&& opField r.mask := by rw [hmask]; exact BitVec.and_allOnes.symm
    _ = opField (w &&& r.mask) := BitVec.extractLsb'_and.symm
    _ = r.mnemonic.opcode := by rw [hand, hpattern]

/-- The loop answers the row of the word's opcode or none. -/
theorem selectRow_eq_ite {r : OpcodeRow} {w : Word} (hr : r ∈ opcodeTable) (hop : opField w = r.mnemonic.opcode) :
    selectRow w = if r.selects w then some r.mnemonic else none := by
  unfold selectRow
  cases hf : opcodeTable.find? (·.selects w) with
  | none => simp [List.find?_eq_none.1 hf r hr]
  | some r' =>
    have hsel : r'.selects w = true := by simpa using List.find?_some hf
    have hmem := List.mem_of_find?_eq_some hf
    obtain rfl := opcodeTable_opcode_injective r' hmem r hr ((opField_of_selects hmem hsel).symm.trans hop)
    simp [hsel]

theorem selectRow_eq_none {w : Word} (h : ∀ m : Mnemonic, opField w ≠ m.opcode) : selectRow w = none := by
  simp only [selectRow, Option.map_eq_none_iff, List.find?_eq_none]
  exact fun r hr hsel => h _ (opField_of_selects hr hsel)

/-- A mask of ones from bit `k` on leaves nothing exactly when the bits from `k` on are zero. -/
theorem and_shifted_allOnes_eq_zero_iff {n : Nat} (arg : BitVec n) (k : Nat) :
    arg &&& (BitVec.allOnes n <<< k) = 0#n ↔ arg.extractLsb' k (n - k) = 0#(n - k) := by
  constructor <;> intro h <;> refine BitVec.eq_of_getLsbD_eq fun i hi => ?_
  · simpa [hi, show k + i < n by omega] using congrArg (·.getLsbD (k + i)) h
  · by_cases hk : k ≤ i
    · have hbit : arg.getLsbD i = false := by
        simpa [show i - k < n - k by omega, show k + (i - k) = i by omega] using congrArg (·.getLsbD (i - k)) h
      simp [hbit]
    · simp [Nat.lt_of_not_le hk]

/-- The low octet of a word is that of its argument. -/
theorem octet_argField (w : Word) : (argField w).extractLsb' 0 8 = w.extractLsb' 0 8 := by simp [argField]

/-- The loop on a word whose opcode is that of `m`, a row with `ARG[23:k]` zero: `k` is 0, 8, 24 or 1 for the formats Z, B, W and M
(30_encoding.md R81 to R84). -/
theorem selectRow_of_opcode {m : Mnemonic} {k : Nat} {w : Word}
    (hr : ⟨m, m.opcode ++ 0#24, 0xFF#8 ++ (BitVec.allOnes 24 <<< k)⟩ ∈ opcodeTable) (hop : opField w = m.opcode) :
    selectRow w =
      if (argField w).extractLsb' k (24 - k) = 0#(24 - k) ∧ (m = .READ → (argField w).extractLsb' 0 8 ≤ 0x0E#8)
      then some m else none := by
  have hw : w = m.opcode ++ argField w := by rw [← hop, append_fields]
  have hmask : w &&& (0xFF#8 ++ (BitVec.allOnes 24 <<< k)) = m.opcode ++ 0#24 ↔
      (argField w).extractLsb' k (24 - k) = 0#(24 - k) := by
    rw [hw, BitVec.and_append, show m.opcode &&& 0xFF#8 = m.opcode from BitVec.and_allOnes, BitVec.append_right_inj,
      and_shifted_allOnes_eq_zero_iff, argField_append]
  rw [selectRow_eq_ite hr hop]
  simp only [OpcodeRow.selects, hmask, ← octet_argField, Bool.and_eq_true, Bool.or_eq_true, decide_eq_true_eq,
    imp_iff_not_or, ne_eq]

end Sys2Proof

/-! SUPPORT. The formats against the rows: each format accepts an argument exactly when the row of its opcode is selected
(30_encoding.md R81 to R84, R87). -/

namespace Sys2Proof

section
variable {w : Word}

theorem formatZ_mnemonic_eq_selectRow {i : Instr} (hop : opField w = i.mnemonic.opcode)
    (hr : ⟨i.mnemonic, i.mnemonic.opcode ++ 0#24, 0xFF#8 ++ (BitVec.allOnes 24 <<< 0)⟩ ∈ opcodeTable)
    (hread : i.mnemonic ≠ .READ) : (formatZ (argField w) i).toOption.map Instr.mnemonic = selectRow w := by
  rw [selectRow_of_opcode hr hop, formatZ]
  split <;> simp_all [Except.toOption]

theorem formatB_mnemonic_eq_selectRow {mk : Octet → Instr} {m : Mnemonic} (hmk : ∀ b, (mk b).mnemonic = m)
    (hop : opField w = m.opcode) (hr : ⟨m, m.opcode ++ 0#24, 0xFF#8 ++ (BitVec.allOnes 24 <<< 8)⟩ ∈ opcodeTable)
    (hread : m ≠ .READ) : (formatB (argField w) mk).toOption.map Instr.mnemonic = selectRow w := by
  rw [selectRow_of_opcode hr hop, formatB]
  split <;> simp_all [Except.toOption]

theorem formatW_mnemonic_eq_selectRow (hop : opField w = Mnemonic.SET_BAUD.opcode) :
    (formatW (argField w) .setBaud).toOption.map Instr.mnemonic = selectRow w := by
  rw [selectRow_of_opcode (k := 24) (by decide) hop, formatW]
  simp [Except.toOption, Instr.mnemonic, BitVec.of_length_zero]

theorem formatM_mnemonic_eq_selectRow (hop : opField w = Mnemonic.SET_MODE.opcode) :
    (formatM (argField w) .setMode).toOption.map Instr.mnemonic = selectRow w := by
  rw [selectRow_of_opcode (k := 1) (by decide) hop, formatM]
  split <;> simp_all [Except.toOption, Instr.mnemonic]

theorem formatRead_mnemonic_eq_selectRow (hop : opField w = Mnemonic.READ.opcode) :
    (formatRead (argField w)).toOption.map Instr.mnemonic = selectRow w := by
  rw [selectRow_of_opcode (k := 8) (by decide) hop, formatRead]
  split
  · split <;> simp_all [Except.toOption, Instr.mnemonic]
  · simp_all [Except.toOption]

end

/-- The decoder is the loop over the rows, format by format. -/
theorem decode_mnemonic_eq_selectRow (w : Word) : (decode w).toOption.map Instr.mnemonic = selectRow w := by
  unfold decode
  split
  -- format W: SET_BAUD
  case h_6 hop => exact formatW_mnemonic_eq_selectRow hop
  -- format M: SET_MODE
  case h_7 hop => exact formatM_mnemonic_eq_selectRow hop
  -- READ
  case h_12 hop => exact formatRead_mnemonic_eq_selectRow hop
  -- an opcode outside the map
  case h_15 => exact (selectRow_eq_none fun m => by cases m <;> assumption).symm
  -- format Z: NOP, CRC_INIT, CRC_READ, TX_SEND, CLOSE
  case h_1 | h_2 | h_4 | h_10 | h_11 => next hop => exact formatZ_mnemonic_eq_selectRow hop (by decide) (by decide)
  -- format B: every other row
  all_goals next hop => exact formatB_mnemonic_eq_selectRow (fun _ => rfl) hop (by decide) (by decide)

theorem decode_eq_error_of_selectRow {w : Word} (h : selectRow w = none) : ∃ why, decode w = .error why := by
  rw [← decode_mnemonic_eq_selectRow] at h
  cases hd : decode w with
  | error why => exact ⟨why, rfl⟩
  | ok i => rw [hd] at h; cases h

end Sys2Proof

/-! SUPPORT. What each format refuses (30_encoding.md R88), and the step on a command word, refused or decoded. -/

namespace Sys2Proof

theorem formatZ_eq_error_iff {arg : BitVec 24} {i : Instr} : (∃ why, formatZ arg i = .error why) ↔ arg ≠ 0#24 := by
  unfold formatZ
  split <;> simp_all

theorem formatB_eq_error_iff {arg : BitVec 24} {mk : Octet → Instr} :
    (∃ why, formatB arg mk = .error why) ↔ arg.extractLsb' 8 16 ≠ 0#16 := by
  unfold formatB
  split <;> simp_all

theorem formatM_eq_error_iff {arg : BitVec 24} {mk : Bool → Instr} :
    (∃ why, formatM arg mk = .error why) ↔ arg.extractLsb' 1 23 ≠ 0#23 := by
  unfold formatM
  split <;> simp_all

theorem formatRead_eq_error_iff {arg : BitVec 24} :
    (∃ why, formatRead arg = .error why) ↔ arg.extractLsb' 8 16 ≠ 0#16 ∨ 0x0E < (arg.extractLsb' 0 8).toNat := by
  unfold formatRead
  split
  · split <;> simp_all [BitVec.le_def]
  · simp_all

end Sys2Proof

namespace Sys2Proof.Machine

section
variable {s : State} {w : Word} {rest : List Input}

theorem step_of_decode_error {why : Illegal} (hi : s.inputs = .command w :: rest) (hd : decode w = .error why) :
    step s = .next ({ s with inputs := rest }.reject .illegal) := by
  simp only [step, hi, runInput, runCommand, hd, answerIllegal]

theorem step_of_decode_ok {i : Instr} (hi : s.inputs = .command w :: rest) (hd : decode w = .ok i) :
    step s = exec i { s with inputs := rest } := by
  simp only [step, hi, runInput, runCommand, hd]

end

/-- Settles O3: format by format the decoder is the loop, so a word no row selects is one it refuses. -/
theorem decodeFollowsTheOpcodeMap : Obligations.DecodeFollowsTheOpcodeMap := by
  refine ⟨decode_mnemonic_eq_selectRow, fun s w rest hi hs => ?_⟩
  obtain ⟨why, hd⟩ := decode_eq_error_of_selectRow hs
  exact step_of_decode_error hi hd

/-- Settles O5: by the opcode, the word is refused for what its format refuses; outside the map the opcode is in one of the ranges. -/
theorem illegalWordsAreExactlyTheListed : Obligations.IllegalWordsAreExactlyTheListed := by
  refine ⟨fun w => ?_, fun s w rest why hi hd => step_of_decode_error hi hd, rfl⟩
  rw [← opField, ← argField]
  unfold decode
  split
  -- format W: SET_BAUD
  case h_6 hop => simp [hop, formatW]
  -- format M: SET_MODE
  case h_7 hop => simp [hop, formatM_eq_error_iff]
  -- READ
  case h_12 hop => simp [hop, formatRead_eq_error_iff]
  -- an opcode outside the map
  case h_15 =>
    refine iff_of_true ⟨_, rfl⟩ (.inl ?_)
    simp only [imp_false, ← BitVec.toNat_inj, BitVec.toNat_ofNat] at *
    omega
  -- format Z: NOP, CRC_INIT, CRC_READ, TX_SEND, CLOSE
  case h_1 | h_2 | h_4 | h_10 | h_11 => next hop => simp [hop, formatZ_eq_error_iff]
  -- format B: every other row
  all_goals next hop => simp [hop, formatB_eq_error_iff]

end Sys2Proof.Machine

/-! SUPPORT. The operand fields of an encoded word (30_encoding.md R85). -/

namespace Sys2Proof

theorem octet_of_encode {i : Instr} {b : Octet} (h : i.arg = b.setWidth 24) : b = (encode i).extractLsb' 0 8 := by
  rw [← octet_argField, argField_encode, h, octet_of_arg]

theorem flag_of_encode (m : Bool) : m = (encode (.setMode m)).getLsbD 0 := by cases m <;> rfl

/-- Settles O6: a word that decodes is its instruction's encoding, whose argument is the operand zero-extended. -/
theorem operandsAreTheArgumentFields : Obligations.OperandsAreTheArgumentFields := by
  intro w i h
  obtain rfl := encode_of_decode_eq_ok h
  cases i with
  | nop | crcInit | crcRead | txSend | close => trivial
  | setBaud v => exact (argField_encode (.setBaud v)).symm
  | setMode m => exact flag_of_encode m
  | crcUpdate _ | setStation _ | txBegin _ | txData _ | read _ | readTx _ | readRx _ => exact octet_of_encode rfl

end Sys2Proof

/-! SUPPORT. The response of an instruction (30_encoding.md R90): every effect leaves the responses to the one answer added at the
end, and only a read command answers data. -/

namespace Sys2Proof.Machine

theorem RspCode.toNat_toOctet_le (code : RspCode) : code.toOctet.toNat ≤ 6 := by cases code <;> decide

theorem RspCode.toOctet_eq_zero_iff {code : RspCode} : code.toOctet = 0x00#8 ↔ code = .ok := by
  cases code <;> decide

section
variable {s u : State} {i : Instr} {code : RspCode}

theorem Effect.rspOut_eq (e : Effect s i code u) : u.rspOut = s.rspOut := by cases e <;> simp

theorem Effect.inputs_eq (e : Effect s i code u) : u.inputs = s.inputs := by cases e <;> simp

/-- An accepted command that reads nothing out answers data 0. -/
theorem Effect.exec_eq (e : Effect s i .ok u) (hi : i.mnemonic ∉ [.CRC_READ, .READ, .READ_TX, .READ_RX]) :
    exec i s = .next (u.respond .ok 0#32) := by
  cases e with
  | rejected ok => exact absurd rfl ok
  | onlyAnswers h =>
    obtain rfl : i = .nop := by cases i <;> simp [Instr.mnemonic] at h hi ⊢
    rfl
  | crcInit | crcUpdate | setStation | setBaud | setMode => rfl
  | txBegin fc h => simp [exec, execTxBegin, h]
  | txData b h room full => simp [exec, execTxData, h, full, Nat.not_le.2 room]
  | txSend h isOpen room => simp [exec, execTxSend, h, isOpen, Nat.not_lt.2 (Nat.add_le_add_right room 2)]
  | close h isOpen => simp [exec, execClose, h, isOpen]

end

/-- An instruction adds one response, whose data is 0 unless an accepted read command gives it. -/
theorem exec_response {i : Instr} {s t : State} (h : exec i s = .next t) :
    ∃ (code : RspCode) (data : Word), t.rspOut = s.rspOut ++ [⟨code.toOctet, data⟩] ∧ t.inputs = s.inputs ∧
      (code ≠ .ok → data = 0#32) ∧ (i.mnemonic ∉ [.CRC_READ, .READ, .READ_TX, .READ_RX] → data = 0#32) := by
  obtain ⟨code, data, u, e, hdata, rfl⟩ := exec_effect h
  refine ⟨code, data, by simp [e.rspOut_eq], e.inputs_eq, hdata, fun hi => ?_⟩
  by_cases hc : code = .ok
  · subst hc
    have hu : u.respond .ok data = u.respond .ok 0#32 := Host.Outcome.next.inj (h.symm.trans (e.exec_eq hi))
    simpa using congrArg State.rspOut hu
  · exact hdata hc

/-- While a frame under assembly leaves room for its CRC, no instruction stops. -/
theorem exec_next_of_txlen_le {s : State} (hs : s.state = .assemble → s.txlen.toNat ≤ 254) (i : Instr) :
    ∃ t, exec i s = .next t := by
  cases h : exec i s with
  | next t => exact ⟨t, rfl⟩
  | fault f =>
    obtain ⟨-, ha, hlen⟩ := exec_fault h
    exact absurd (hs ha) (Nat.not_le.2 hlen)
  | refused r => exact absurd h (exec_not_refused i s r)

/-- Settles O40: an illegal word is answered ILLEGAL; a legal one runs without a stop, by item 1 of 10_state.md R55, and adds the one
response of `exec_response`. -/
theorem everyCommandReturnsOneResponse : Obligations.EveryCommandReturnsOneResponse := by
  intro s w rest hinv hi
  cases hd : decode w with
  | error why =>
    exact ⟨_, 0x01#8, 0#32, step_of_decode_error hi hd, rfl, rfl, by decide, fun _ => rfl, fun _ => rfl⟩
  | ok i =>
    have hlen : s.state = .assemble → s.txlen.toNat ≤ 254 := fun ha => (hinv.exchange.assembleLen ha).2
    obtain ⟨t, ht⟩ := exec_next_of_txlen_le (s := { s with inputs := rest }) hlen i
    obtain ⟨code, data, hrsp, hinputs, hreject, hread⟩ := exec_response ht
    exact ⟨t, code.toOctet, data, (step_of_decode_ok hi hd).trans ht, hrsp, hinputs, code.toNat_toOctet_le,
      fun hc => hreject (mt RspCode.toOctet_eq_zero_iff.2 hc), fun hk => hread (hk i rfl)⟩

end Sys2Proof.Machine

/-! SUPPORT. A word of a format Z command, written as its opcode above its argument (30_encoding.md R80, R81). -/

namespace Sys2Proof

/-- A command without an operand is decoded from its opcode by format Z alone. -/
theorem decode_append_eq_formatZ {i : Instr} (hi : i ∈ [.nop, .crcInit, .crcRead, .txSend, .close]) (arg : BitVec 24) :
    decode (i.mnemonic.opcode ++ arg) = formatZ arg i := by
  unfold decode
  rw [opField_append, argField_append]
  cases i with
  | nop | crcInit | crcRead | txSend | close => rfl
  | crcUpdate | setStation | setBaud | setMode | txBegin | txData | read | readTx | readRx => simp at hi

end Sys2Proof

/-! The two checksum commands without an operand, CRC_INIT and CRC_READ (40_checksum.md R113, R115). -/

namespace Sys2Proof.Machine

theorem exec_crcRead (s : State) : exec .crcRead s = .next (s.respond .ok (zext32 s.crc)) := rfl

/-- Settles O12: the effect of CRC_INIT, accepted with data 0, and its word in format Z. -/
theorem crcInitRestartsTheChecksum : Obligations.CrcInitRestartsTheChecksum :=
  ⟨fun _ => Effect.crcInit.exec_eq (by decide), decode_append_eq_formatZ (i := .crcInit) (by decide)⟩

/-- Settles O14: the answer of CRC_READ and its word in format Z. -/
theorem crcReadAnswersTheChecksum : Obligations.CrcReadAnswersTheChecksum :=
  ⟨exec_crcRead, decode_append_eq_formatZ (i := .crcRead) (by decide)⟩

end Sys2Proof.Machine

/-! SUPPORT. The response check branch by branch (41_frame_codec.md R140): which octets make a frame, the checks of a frame in their
order, and what a frame that passes them is reported as; then the step of WINDOW_CLOSE, which records the check (43_transport.md
R178). -/

namespace Sys2Proof.Machine

/-- The last two octets of a list of octets, set apart. -/
theorem Memory.octets_eq_append_pair_iff (m : Memory) {b : Nat} (hb : 2 ≤ b) (x y : Octet) :
    m.octets 0 b = m.octets 0 (b - 2) ++ [x, y] ↔ m.read (b - 2) = x ∧ m.read (b - 1) = y := by
  obtain ⟨k, rfl⟩ := Nat.exists_eq_add_of_le' hb
  simp [Memory.octets_succ]

namespace State

/-- What a frame that passes every check is reported as: branches (j) and (k). -/
def accepted (s : State) : FrameClass → Nat → Result × Octet
  | .echo, _ => (.ok, 0x00#8)
  | .excf, len => (.protocolException, if 5 ≤ len then s.rxbuf.read 2 else 0x00#8)

section
variable {s : State} {cls : FrameClass} {len : Nat}

/-! ### Branches (a) to (f): is there a frame -/

theorem classify_of_rxlen_zero (h : s.rxlen.toNat = 0) : s.classify = .failed .noResponse 0x0B#8 := by
  simp [classify, h]

theorem classify_of_overflow (h : 256 < s.rxlen.toNat) : s.classify = .failed .unexpectedData 0x00#8 := by
  simp [classify, h, Nat.ne_of_gt (Nat.zero_lt_of_lt h)]

theorem classify_of_rxlen_one (h : s.rxlen.toNat = 1) : s.classify = .failed .unexpectedData 0x00#8 := by
  simp [classify, h]

/-- Branches (d) to (f): with 2 to 256 octets the function code decides. -/
theorem classify_eq_ite (h : 2 ≤ s.rxlen.toNat) (hn : s.rxlen.toNat ≤ 256) :
    s.classify =
      if s.rxbuf.read 1 = s.txbuf.read 1 then .frame .echo s.rxlen.toNat
      else if s.rxbuf.read 1 = s.txbuf.read 1 ||| 0x80#8 then .frame .excf (min s.rxlen.toNat 5)
      else .failed .unexpectedData 0x00#8 := by
  have h0 : s.rxlen.toNat ≠ 0 := by omega
  simp only [classify, h0, Nat.not_lt.2 h, Nat.not_lt.2 hn, if_false]

section
variable (h : 2 ≤ s.rxlen.toNat) (hn : s.rxlen.toNat ≤ 256)
include h hn

theorem classify_of_echo (hecho : s.rxbuf.read 1 = s.txbuf.read 1) : s.classify = .frame .echo s.rxlen.toNat := by
  rw [classify_eq_ite h hn, if_pos hecho]

/-- An exception frame is at most five octets long, and not an echo. -/
theorem classify_of_excf (hecho : s.rxbuf.read 1 ≠ s.txbuf.read 1) (hexcf : s.rxbuf.read 1 = s.txbuf.read 1 ||| 0x80#8) :
    s.classify = .frame .excf (min s.rxlen.toNat 5) := by
  rw [classify_eq_ite h hn, if_neg hecho, if_pos hexcf]

theorem classify_of_other_function (hecho : s.rxbuf.read 1 ≠ s.txbuf.read 1)
    (hexcf : s.rxbuf.read 1 ≠ s.txbuf.read 1 ||| 0x80#8) : s.classify = .failed .unexpectedData 0x00#8 := by
  rw [classify_eq_ite h hn, if_neg hecho, if_neg hexcf]

end

/-- Every frame comes from branch (d) or (e). -/
theorem classify_eq_frame (h : s.classify = .frame cls len) :
    (cls = .echo ∧ len = s.rxlen.toNat ∧ s.rxbuf.read 1 = s.txbuf.read 1) ∨
    (cls = .excf ∧ len = min s.rxlen.toNat 5 ∧ s.rxbuf.read 1 ≠ s.txbuf.read 1 ∧
      s.rxbuf.read 1 = s.txbuf.read 1 ||| 0x80#8) := by
  simp only [classify] at h
  split_ifs at h with _ _ _ hecho hexcf <;> cases h
  · exact .inl ⟨rfl, rfl, hecho⟩
  · exact .inr ⟨rfl, rfl, hecho, hexcf⟩

theorem classify_eq_failed {res : Result} {exc : Octet} (h : s.classify = .failed res exc) :
    res = .noResponse ∨ res = .unexpectedData := by
  simp only [classify] at h
  split_ifs at h <;> cases h <;> simp

/-! ### Branches (g) to (k): the checks of a frame -/

/-- The checks in their order, the CRC check on the octets as a list. -/
theorem verdict_eq_ite (s : State) (cls : FrameClass) (len : Nat) :
    s.verdict cls len =
      if len < 4 then (.responseTooShort, 0x00#8)
      else if s.rxbuf.read 0 ≠ s.txbuf.read 0 then (.stationMismatch, 0x00#8)
      else if s.rxbuf.octets 0 len ≠ s.rxbuf.octets 0 (len - 2) ++ crcOctets (crc16 (s.rxbuf.octets 0 (len - 2))) then
        (.checksumMismatch, 0x00#8)
      else s.accepted cls len := by
  by_cases hlen : len < 4
  · simp [verdict, hlen]
  · have h2 : 2 ≤ len := by omega
    simp only [verdict, crcOctets, ne_eq, Memory.octets_eq_append_pair_iff _ h2, not_and_or]
    cases cls <;> rfl

/-- A frame that fails a check is reported as neither OK nor PROTOCOL_EXCEPTION. -/
theorem verdict_eq_accepted (h : (s.verdict cls len).1 = .ok ∨ (s.verdict cls len).1 = .protocolException) :
    s.verdict cls len = s.accepted cls len := by
  rw [verdict_eq_ite] at h ⊢
  split_ifs at h ⊢
  case neg => rfl
  all_goals simp at h

/-- The third octet is reported when the window received five octets at least. -/
theorem accepted_excf (s : State) :
    s.accepted .excf (min s.rxlen.toNat 5) = (.protocolException,
      if 5 ≤ s.rxlen.toNat then (s.rxbuf.octets 0 (min s.rxlen.toNat 256)).getD 2 0x00#8 else 0x00#8) := by
  simp only [accepted, le_min_iff, le_refl, and_true]
  split
  · rw [Memory.getD_octets s.rxbuf (by omega)]
  · rfl

/-! ### The whole check -/

theorem checkResponse_of_failed {res : Result} {exc : Octet} (h : s.classify = .failed res exc) :
    s.checkResponse = ⟨res, exc, 0, 0xFFFF#16⟩ := by
  simp [checkResponse, h]

theorem checkResponse_of_frame (h : s.classify = .frame cls len) :
    s.checkResponse =
      ⟨(s.verdict cls len).1, (s.verdict cls len).2, len, crc16 (s.rxbuf.octets 0 (len - 2))⟩ := by
  simp [checkResponse, h]

/-- The registers of a checked frame, told of the octets the window received: the length and the CRC of all but the last two octets,
and the first check that fails, or what an accepted frame is reported as. -/
theorem checkResponse_frame_cases {good : Result} {goodExc : Octet} (h : s.classify = .frame cls len) (h2 : 2 ≤ len)
    (hlen : len ≤ min s.rxlen.toNat 256) (hgood : s.accepted cls len = (good, goodExc)) :
    let rx := s.rxbuf.octets 0 (min s.rxlen.toNat 256)
    let valid := rx.take len = rx.take (len - 2) ++ crcOctets (crc16 (rx.take (len - 2)))
    (BitVec.ofNat 9 s.checkResponse.len).toNat = len ∧ s.checkResponse.rxcrc = crc16 (rx.take (len - 2)) ∧
    (len < 4 → s.checkResponse.res = .responseTooShort ∧ s.checkResponse.exc = 0x00#8) ∧
    (4 ≤ len → rx.getD 0 0x00#8 ≠ s.txbuf.read 0 →
      s.checkResponse.res = .stationMismatch ∧ s.checkResponse.exc = 0x00#8) ∧
    (4 ≤ len → rx.getD 0 0x00#8 = s.txbuf.read 0 → ¬ valid →
      s.checkResponse.res = .checksumMismatch ∧ s.checkResponse.exc = 0x00#8) ∧
    (4 ≤ len → rx.getD 0 0x00#8 = s.txbuf.read 0 → valid →
      s.checkResponse.res = good ∧ s.checkResponse.exc = goodExc) := by
  have hfits : len < 2 ^ 9 := by omega
  simp only [checkResponse_of_frame h, verdict_eq_ite, hgood, Memory.getD_octets s.rxbuf (show 0 < min s.rxlen.toNat 256 by omega),
    Memory.take_octets s.rxbuf hlen, Memory.take_octets s.rxbuf (show len - 2 ≤ min s.rxlen.toNat 256 by omega),
    BitVec.toNat_ofNat, Nat.mod_eq_of_lt hfits, true_and]
  refine ⟨fun hshort => ?short, fun hlong hstation => ?station, fun hlong hstation hcrc => ?crc,
    fun hlong hstation hcrc => ?accepted⟩
  case short => simp [hshort]
  case station => simp [Nat.not_lt.2 hlong, hstation]
  case crc => simp [Nat.not_lt.2 hlong, hstation, hcrc]
  case accepted => simp [Nat.not_lt.2 hlong, hstation, ← hcrc]

/-- OK and PROTOCOL_EXCEPTION are reported only for a frame that passes every check. -/
theorem checkResponse_eq_accepted (h : s.checkResponse.res = .ok ∨ s.checkResponse.res = .protocolException) :
    ∃ cls len, s.classify = .frame cls len ∧
      s.checkResponse = ⟨(s.accepted cls len).1, (s.accepted cls len).2, len, crc16 (s.rxbuf.octets 0 (len - 2))⟩ := by
  cases hc : s.classify with
  | failed res exc =>
    rw [checkResponse_of_failed hc] at h
    obtain rfl | rfl := classify_eq_failed hc <;> simp at h
  | frame cls len =>
    rw [checkResponse_of_frame hc] at h ⊢
    exact ⟨cls, len, rfl, by rw [verdict_eq_accepted h]⟩

/-- OK is reported for an echo only. -/
theorem echo_of_checkResponse_ok (h : s.checkResponse.res = .ok) : s.rxbuf.read 1 = s.txbuf.read 1 := by
  obtain ⟨cls, len, hc, hr⟩ := checkResponse_eq_accepted (.inl h)
  obtain ⟨-, -, hecho⟩ | ⟨rfl, -, -⟩ := classify_eq_frame hc
  · exact hecho
  · simp [hr, accepted] at h

/-- PROTOCOL_EXCEPTION is reported for an exception frame only, with its third octet when it has five. -/
theorem excf_of_checkResponse_protocolException (h : s.checkResponse.res = .protocolException) :
    s.rxbuf.read 1 ≠ s.txbuf.read 1 ∧ s.rxbuf.read 1 = s.txbuf.read 1 ||| 0x80#8 ∧ s.checkResponse.len ≤ 5 ∧
      s.checkResponse.exc = if 5 ≤ s.checkResponse.len then s.rxbuf.read 2 else 0x00#8 := by
  obtain ⟨cls, len, hc, hr⟩ := checkResponse_eq_accepted (.inr h)
  obtain ⟨rfl, -, -⟩ | ⟨rfl, rfl, hecho, hexcf⟩ := classify_eq_frame hc
  · simp [hr, accepted] at h
  · exact ⟨hecho, hexcf, by simp [hr], by simp only [hr, accepted]⟩

theorem errorKind_of_protocolException (h : s.result = .protocolException) :
    s.errorKind = some (.protocolException (s.rxbuf.read 1) s.exc) := by
  simp [errorKind, h]

end

end State

/-- WINDOW_CLOSE has a step in RXWAIT only, and that step records the check. -/
theorem step_windowClose_eq_next_iff {s t : State} {rest : List Input} (hi : s.inputs = .windowClose :: rest) :
    step s = .next t ↔ s.state = .rxwait ∧ t = { s.closeWindow with inputs := rest } := by
  simp only [step, hi, runInput, windowClose]
  split
  · next hs => simp only [hs, Host.Outcome.next.injEq, true_and]; exact eq_comm
  · next hs => simp [hs]

/-- Settles O27: each clause is a branch of the check, and the clauses of a frame are `checkResponse_frame_cases`. -/
theorem windowCloseClassifiesTheResponse : Obligations.WindowCloseClassifiesTheResponse := by
  refine ⟨fun s rest hi hs t ht => hs ((step_windowClose_eq_next_iff hi).1 ht).1, fun s rest hi hs => ?_⟩
  refine ⟨_, (step_windowClose_eq_next_iff hi).2 ⟨hs, rfl⟩, rfl, ?_⟩
  intro n rx rx0 rx1 tx0 tx1 valid checked unexpected
  have hrx1 (h : 2 ≤ n) (hn : n ≤ 256) : rx1 = s.rxbuf.read 1 := Memory.getD_octets s.rxbuf (by omega) _
  have hunexpected (h : s.classify = .failed .unexpectedData 0x00#8) : unexpected := by
    simp [unexpected, State.checkResponse_of_failed h]
  refine ⟨fun h => ?empty, fun h => hunexpected (State.classify_of_overflow h),
    fun h => hunexpected (State.classify_of_rxlen_one h), fun h hn => ?other, fun h hn => ?echo, fun h hn => ?excf⟩
  case empty => simp [State.checkResponse_of_failed (State.classify_of_rxlen_zero h)]
  all_goals rw [hrx1 h hn]
  case other => exact fun hecho hexcf => hunexpected (State.classify_of_other_function h hn hecho hexcf)
  case echo =>
    exact fun hecho => State.checkResponse_frame_cases (State.classify_of_echo h hn hecho) h (by omega) rfl
  case excf =>
    exact fun hecho hexcf => State.checkResponse_frame_cases (State.classify_of_excf h hn hecho hexcf) (by omega) (by omega)
      (State.accepted_excf s)

/-- Settles O29: only an echo is reported OK and only an exception frame PROTOCOL_EXCEPTION; the 4-octet frame is one that passes
each check of `verdict_eq_ite`. -/
theorem exceptionFrameIsNeverOk : Obligations.ExceptionFrameIsNeverOk := by
  refine ⟨fun s t rest hi ht => ?_, fun s rest hi hs hlen hstation hexcf hecho hcrc => ?_⟩
  · obtain ⟨-, rfl⟩ := (step_windowClose_eq_next_iff hi).1 ht
    refine ⟨State.echo_of_checkResponse_ok, fun h => ?_⟩
    obtain ⟨hecho, hexcf, hle, hexc⟩ := State.excf_of_checkResponse_protocolException h
    refine ⟨hexcf, hecho, hexcf ▸ State.errorKind_of_protocolException h, ?_⟩
    have hfive : 5 ≤ s.checkResponse.len ↔ s.closeWindow.framelen.toNat = 5 := by
      simp only [State.closeWindow_framelen, BitVec.toNat_ofNat]
      omega
    exact hexc.trans (if_congr hfive rfl rfl)
  · have hclass : s.classify = .frame .excf 4 := by
      simpa [hlen] using State.classify_of_excf (by simp [hlen]) (by simp [hlen]) hecho hexcf
    have hvalid : s.rxbuf.octets 0 4 = s.rxbuf.octets 0 2 ++ crcOctets (crc16 (s.rxbuf.octets 0 2)) :=
      (s.rxbuf.octets_eq_append_pair_iff (by decide) _ _).2 hcrc
    have hverdict : s.verdict .excf 4 = (.protocolException, 0x00#8) := by
      rw [State.verdict_eq_ite]
      simp [hstation, State.accepted, ← hvalid]
    refine ⟨_, (step_windowClose_eq_next_iff hi).2 ⟨hs, rfl⟩, ?_⟩
    simp [State.checkResponse_of_frame hclass, hverdict]

end Sys2Proof.Machine

/-! SUPPORT. The predicted response length (42_timing.md R151): what rounding up means, one equation per group of function codes, and
the octets the quantity is read from. -/

namespace Sys2Proof.Machine

/-- A quotient rounded up is the least that covers the dividend. -/
theorem ceilDiv_bounds (a : Nat) {b : Nat} (hb : 0 < b) : a ≤ b * ceilDiv a b ∧ b * ceilDiv a b < a + b := by
  have hle : b * ceilDiv a b ≤ a + b - 1 := Nat.mul_div_le _ _
  have hlt : a + b - 1 < b * ceilDiv a b + b := Nat.lt_mul_div_succ _ hb
  omega

section
variable {fc : Octet} (count : Nat)

/-- Codes 1 and 2 answer one bit for each of the quantity. -/
theorem predictedLen_of_bits (h : fc.toNat ∈ [1, 2]) : predictedLen fc count = 5 + ceilDiv count 8 := by
  obtain rfl | rfl : fc = 0x01#8 ∨ fc = 0x02#8 := by simpa [← BitVec.toNat_inj] using h
  · rfl
  · rfl

/-- Codes 3 and 4 answer two octets for each of the quantity. -/
theorem predictedLen_of_registers (h : fc.toNat ∈ [3, 4]) : predictedLen fc count = 5 + 2 * count := by
  rw [Nat.mul_comm]
  obtain rfl | rfl : fc = 0x03#8 ∨ fc = 0x04#8 := by simpa [← BitVec.toNat_inj] using h
  · rfl
  · rfl

/-- The writing codes answer four octets besides station, code and CRC. -/
theorem predictedLen_of_writes (h : fc.toNat ∈ [5, 6, 15, 16]) : predictedLen fc count = 8 := by
  obtain rfl | rfl | rfl | rfl : fc = 0x05#8 ∨ fc = 0x06#8 ∨ fc = 0x0F#8 ∨ fc = 0x10#8 := by
    simpa [← BitVec.toNat_inj] using h
  · rfl
  · rfl
  · rfl
  · rfl

theorem predictedLen_of_other (h : fc.toNat ∉ [1, 2, 3, 4, 5, 6, 15, 16]) : predictedLen fc count = 4 := by
  unfold predictedLen
  split
  -- the last branch is every other code; each branch before it is a code of the list
  case h_9 => rfl
  all_goals exact absurd (by decide) h

end

/-- Settles O33: the quantity's octets are `State.aduOctet`; the lengths are the equations of the four groups of codes, and the ranges
are those of a 16-bit quantity. -/
theorem predictedLengthByFunctionCode : Obligations.PredictedLengthByFunctionCode := by
  refine ⟨fun s => rfl, fun fc count hcount => ⟨fun h => ?bits, fun h => ?registers, predictedLen_of_writes count,
    predictedLen_of_other count⟩⟩
  case bits =>
    obtain ⟨hcovers, hleast⟩ := ceilDiv_bounds count (show 0 < 8 by decide)
    have hlen := predictedLen_of_bits count h
    exact ⟨ceilDiv count 8, hlen, hcovers, hleast, by omega⟩
  case registers =>
    have hlen := predictedLen_of_registers count h
    exact ⟨hlen, by omega⟩

end Sys2Proof.Machine

/-! SUPPORT. CLOSE (43_transport.md R175): its two refusals; its effect is `Effect.close`. -/

namespace Sys2Proof.Machine

section
variable {s : State}

theorem exec_close_of_closed (hc : s.closed = true) : exec .close s = .next (s.reject .alreadyClosed) := by
  simp [exec, execClose, hc]

theorem exec_close_of_rxwait (hc : s.closed = false) (hs : s.state = .rxwait) :
    exec .close s = .next (s.reject .stateErr) := by
  simp [exec, execClose, hc, hs]

end

/-- Settles O23: the effect of CLOSE, its two refusals, and its word in format Z. -/
theorem closeReleasesTheChannelOnce : Obligations.CloseReleasesTheChannelOnce :=
  ⟨fun _ hc hs => (Effect.close hs hc).exec_eq (by decide), fun _ => exec_close_of_closed, fun _ => exec_close_of_rxwait,
    decode_append_eq_formatZ (i := .close) (by decide)⟩

end Sys2Proof.Machine

/-! SUPPORT. LINE_RX (43_transport.md R177): the step of the event, and one equation for each case of `lineRx_cases`. -/

namespace Sys2Proof.Machine

theorem step_lineRx {s : State} {b : Octet} {rest : List Input} (hi : s.inputs = .lineRx b :: rest) :
    step s = .next (lineRx b { s with inputs := rest }) := by
  simp only [step, hi, runInput]

section
variable {s : State} (b : Octet)

theorem lineRx_of_room (hs : s.state = .rxwait) (hlen : s.rxlen.toNat < 256) :
    lineRx b s = { s.storeRx s.rxlen.toNat b with rxlen := s.rxlen + 1#9 } := by
  rw [lineRx, if_pos hs, if_pos hlen]

theorem lineRx_of_full (hs : s.state = .rxwait) (hlen : 256 ≤ s.rxlen.toNat) :
    lineRx b s = { s with rxlen := 257#9 } := by
  rw [lineRx, if_pos hs, if_neg (Nat.not_lt.2 hlen)]

theorem lineRx_of_not_rxwait (hs : s.state ≠ .rxwait) : lineRx b s = s := if_neg hs

end

/-- Settles O26: the three equations of `lineRx`; RXLEN counts up without a wrap below 256, and a write reads back at its own index
only. -/
theorem lineRxFillsTheWindow : Obligations.LineRxFillsTheWindow := by
  refine ⟨fun b s rest hi hbuf hs hlen => ?stored, fun b s rest hi hs hlen => ?overflow, fun b s rest hi hs => ?outside⟩
  case stored =>
    refine ⟨_, (step_lineRx hi).trans (congrArg Host.Outcome.next (lineRx_of_room b hs hlen)), rfl, ?_,
      Memory.read_write_same hbuf.rx _ b, fun a ha => Memory.read_write_ne hbuf.rx ha b⟩
    have hfits : s.rxlen.toNat + 1 < 2 ^ 9 := by omega
    exact BitVec.toNat_add_of_lt hfits
  case overflow => exact (step_lineRx hi).trans (congrArg Host.Outcome.next (lineRx_of_full b hs hlen))
  case outside => exact (step_lineRx hi).trans (congrArg Host.Outcome.next (lineRx_of_not_rxwait b hs))

end Sys2Proof.Machine

/-! SUPPORT. STATE in an open window (43_transport.md R180): no instruction leaves RXWAIT, since each effect that writes STATE is
refused there, and no LINE_RX writes STATE. -/

namespace Sys2Proof.Machine

/-- The commands that write STATE are TX_BEGIN, refused in RXWAIT, and TX_DATA and TX_SEND, refused outside ASSEMBLE. -/
theorem Effect.state_eq_rxwait {s u : State} {i : Instr} {code : RspCode} (e : Effect s i code u)
    (hs : s.state = .rxwait) : u.state = .rxwait := by
  cases e with
  | txBegin _ h => exact absurd hs h
  | txData _ h | txDataFull _ h | txSend h => cases hs.symm.trans h
  | rejected | onlyAnswers | crcInit | crcUpdate | setStation | setBaud | setMode | close => exact hs

theorem exec_state_eq_rxwait {i : Instr} {s t : State} (h : exec i s = .next t) (hs : s.state = .rxwait) :
    t.state = .rxwait := by
  obtain ⟨code, data, u, e, -, rfl⟩ := exec_effect h
  exact e.state_eq_rxwait hs

@[simp] theorem lineRx_state (b : Octet) (s : State) : (lineRx b s).state = s.state := by
  obtain ⟨-, -, h⟩ | ⟨-, -, h⟩ | ⟨-, h⟩ := lineRx_cases b s <;> rw [h]
  rfl

/-- Settles O44: a command and a LINE_RX keep RXWAIT; WINDOW_CLOSE and RESET leave IDLE. -/
theorem onlyWindowCloseAndResetLeaveTheWindow : Obligations.OnlyWindowCloseAndResetLeaveTheWindow := by
  intro s t i rest hi hs h
  obtain ⟨hin, -⟩ | ⟨w, r, why, hin, -, rfl⟩ | ⟨w, r, k, hin, -, he⟩ | ⟨b, r, hin, rfl⟩ | ⟨r, hin, -, rfl⟩ |
    ⟨r, hin, rfl⟩ := step_cases h <;> rw [hi] at hin <;> cases hin
  next => simp [hs] -- an illegal word
  next => simp [exec_state_eq_rxwait he hs] -- a command
  next => simp [hs] -- LINE_RX
  next => simp -- WINDOW_CLOSE
  next => simp -- RESET

end Sys2Proof.Machine

/-! SUPPORT. A word of a format B, W, M or READ command, written as its opcode above its argument (30_encoding.md R80, R82 to R84), and
the arguments of the legal READ words. -/

namespace Sys2Proof

/-- A command of format B is decoded from its opcode by that format alone. -/
theorem decode_append_eq_formatB {mk : Octet → Instr}
    (hmk : mk ∈ [.crcUpdate, .setStation, .txBegin, .txData, .readTx, .readRx]) (arg : BitVec 24) :
    decode ((mk 0#8).mnemonic.opcode ++ arg) = formatB arg mk := by
  rw [decode, opField_append, argField_append]
  simp only [List.mem_cons, List.not_mem_nil, or_false] at hmk
  obtain rfl | rfl | rfl | rfl | rfl | rfl := hmk <;> rfl

theorem decode_append_eq_formatW (arg : BitVec 24) : decode (Mnemonic.SET_BAUD.opcode ++ arg) = formatW arg .setBaud := by
  rw [decode, opField_append, argField_append]; rfl

theorem decode_append_eq_formatM (arg : BitVec 24) : decode (Mnemonic.SET_MODE.opcode ++ arg) = formatM arg .setMode := by
  rw [decode, opField_append, argField_append]; rfl

theorem decode_append_eq_formatRead (arg : BitVec 24) : decode (Mnemonic.READ.opcode ++ arg) = formatRead arg := by
  rw [decode, opField_append, argField_append]; rfl

/-- The two conditions of a READ word are one bound on its whole argument. -/
theorem register_arg_iff (arg : BitVec 24) :
    (arg.extractLsb' 8 16 = 0#16 ∧ (arg.extractLsb' 0 8).toNat ≤ 0x0E) ↔ arg.toNat ≤ 0x0E := by
  have harg := arg.isLt
  simp only [← BitVec.toNat_inj, BitVec.extractLsb'_toNat, Nat.shiftRight_eq_div_pow, BitVec.toNat_ofNat]
  omega

theorem formatRead_of_le {arg : BitVec 24} (h : arg.toNat ≤ 0x0E) : formatRead arg = .ok (.read (arg.extractLsb' 0 8)) := by
  obtain ⟨hmbz, hr⟩ := (register_arg_iff arg).2 h
  rw [formatRead, if_pos hmbz, if_pos (BitVec.le_def.2 hr)]

theorem formatRead_of_gt {arg : BitVec 24} (h : 0x0E < arg.toNat) : ∃ why, formatRead arg = .error why := by
  rw [formatRead_eq_error_iff, ← Nat.not_le, ← not_and_or, register_arg_iff]
  exact Nat.not_le.2 h

end Sys2Proof

/-! SUPPORT. The read-out commands (44_control.md R195 to R197): one equation for each case of their answer. -/

namespace Sys2Proof.Machine

section
variable (s : State)

theorem exec_read_number (name : RegName) : exec (.read name.number) s = .next (s.respond .ok (s.regval name)) := by
  simp [exec, execRead]

theorem regval_MODE : s.regval .MODE = if s.ccFcMult then 1#32 else 0#32 := by
  cases h : s.ccFcMult <;> simp [State.regval, zext32, h]

end

section
variable {k : Octet} {s : State}

theorem exec_readTx_of_lt (hk : k.toNat < s.txlen.toNat) :
    exec (.readTx k) s = .next (s.respond .ok (zext32 (s.txbuf.read k.toNat))) := if_neg (Nat.not_le.2 hk)

theorem exec_readTx_of_le (hk : s.txlen.toNat ≤ k.toNat) : exec (.readTx k) s = .next (s.reject .badIndex) := if_pos hk

theorem exec_readRx_of_rxwait (hs : s.state = .rxwait) : exec (.readRx k) s = .next (s.reject .stateErr) := if_pos hs

theorem exec_readRx_of_lt (hs : s.state ≠ .rxwait) (hk : k.toNat < s.rxCount) :
    exec (.readRx k) s = .next (s.respond .ok (zext32 (s.rxbuf.read k.toNat))) :=
  (if_neg hs).trans (if_neg (Nat.not_le.2 hk))

theorem exec_readRx_of_le (hs : s.state ≠ .rxwait) (hk : s.rxCount ≤ k.toNat) :
    exec (.readRx k) s = .next (s.reject .badIndex) :=
  (if_neg hs).trans (if_pos hk)

end

/-- Settles O16: the list is every register under its number with its read value, and a READ word is legal exactly up to 0x0E. -/
theorem readAnswersEveryRegister : Obligations.ReadAnswersEveryRegister := by
  refine ⟨fun r s value hmem => ?_, fun arg => ?_⟩
  · rw [← regval_MODE] at hmem
    change (r, value) ∈ allRegisters.map fun name => (name.number, s.regval name) at hmem
    obtain ⟨name, -, hname⟩ := List.mem_map.1 hmem
    obtain ⟨rfl, rfl⟩ := Prod.mk.inj hname
    exact exec_read_number s name
  · rw [show (0x40#8 : Octet) = Mnemonic.READ.opcode from rfl, decode_append_eq_formatRead]
    exact ⟨formatRead_of_le, formatRead_of_gt⟩

/-- Settles O18: the octet below TXLEN, BAD_INDEX from TXLEN on, and the word in format B. -/
theorem readTxAnswersDefinedOctets : Obligations.ReadTxAnswersDefinedOctets :=
  ⟨fun _ _ => exec_readTx_of_lt, fun _ _ => exec_readTx_of_le, decode_append_eq_formatB (mk := .readTx) (by simp)⟩

/-- Settles O19: STATE_ERR in RXWAIT before any index is looked at, then the two sides of the bound, and the word in format B. -/
theorem readRxAnswersDefinedOctets : Obligations.ReadRxAnswersDefinedOctets :=
  ⟨fun _ _ => exec_readRx_of_rxwait, fun _ _ => exec_readRx_of_lt, fun _ _ => exec_readRx_of_le,
    decode_append_eq_formatB (mk := .readRx) (by simp)⟩

end Sys2Proof.Machine

/-! NOP and the configuration commands (44_control.md R190 to R193): their effects are `Effect.onlyAnswers`, `Effect.setStation`,
`Effect.setBaud` and `Effect.setMode`, accepted with data 0. -/

namespace Sys2Proof.Machine

/-- Settles O11: NOP has no effect beside its answer, and its word is in format Z. -/
theorem nopOnlyAnswers : Obligations.NopOnlyAnswers :=
  ⟨fun _ => (Effect.onlyAnswers (by decide)).exec_eq (by decide), decode_append_eq_formatZ (i := .nop) (by decide)⟩

/-- Settles O15: the effect of each command, without a premise on state or operand, and its word in format B, W or M. -/
theorem configurationCommandsStoreTheirOperand : Obligations.ConfigurationCommandsStoreTheirOperand :=
  ⟨fun a _ => (Effect.setStation a).exec_eq (by simp [Instr.mnemonic]),
    fun w _ => (Effect.setBaud w).exec_eq (by simp [Instr.mnemonic]),
    fun m _ => (Effect.setMode m).exec_eq (by simp [Instr.mnemonic]),
    decode_append_eq_formatB (mk := .setStation) (by simp), decode_append_eq_formatW, decode_append_eq_formatM⟩

end Sys2Proof.Machine

/-! SUPPORT. Refusal for state (60_exceptions.md R214): of the five commands that can answer STATE_ERR, each does so exactly in the
phases where the table has no "ok". For CLOSE that needs an open channel in RXWAIT, since ALREADY_CLOSED comes first there. -/

namespace Sys2Proof.Machine

theorem RspCode.toOctet_eq_stateErr_iff {code : RspCode} : code.toOctet = 0x02#8 ↔ code = .stateErr := by
  cases code <;> decide

/-- The refusals of the acceptance table: two commands need ASSEMBLE, three are shut out of RXWAIT. -/
theorem acceptedIn_eq_false_iff {m : Mnemonic} {p : Phase} : acceptedIn m p = false ↔
    m ∈ [.TX_DATA, .TX_SEND] ∧ p ≠ .assemble ∨ m ∈ [.TX_BEGIN, .CLOSE, .READ_RX] ∧ p = .rxwait := by
  cases m <;> cases p <;> decide

section
variable {s : State}

/-- An answer with another code is not the STATE_ERR rejection: the last response differs. -/
theorem reject_stateErr_ne_respond {u : State} {code : RspCode} {data : Word} (hu : u.rspOut = s.rspOut)
    (hc : code ≠ .stateErr) : (.next (s.reject .stateErr) : Outcome) ≠ .next (u.respond code data) := by
  intro h
  obtain ⟨hcode, -⟩ : RspCode.stateErr.toOctet = code.toOctet ∧ 0#32 = data := by
    simpa [hu] using congrArg State.rspOut (Host.Outcome.next.inj h)
  exact hc (RspCode.toOctet_eq_stateErr_iff.1 hcode.symm)

/-- An instruction is rejected for state exactly where the table refuses it. -/
theorem exec_eq_reject_stateErr_iff (hopen : s.state = .rxwait → s.closed = false) (i : Instr) :
    exec i s = .next (s.reject .stateErr) ↔ acceptedIn i.mnemonic s.state = false := by
  rw [acceptedIn_eq_false_iff]
  cases i with
  | nop | crcInit | crcUpdate | crcRead | setStation | setBaud | setMode =>
    exact iff_of_false (reject_stateErr_ne_respond (by rfl) (by decide)).symm (by simp [Instr.mnemonic])
  | read | readTx =>
    refine iff_of_false ?_ (by simp [Instr.mnemonic])
    simp only [exec, execRead, execReadTx]
    split <;> exact (reject_stateErr_ne_respond rfl (by decide)).symm
  | txBegin fc =>
    exact (reject_stateErr_ne_respond (by simp) (by decide)).ite_eq_left_iff.trans (by simp [Instr.mnemonic])
  | txData b =>
    refine (Ne.ite_eq_left_iff ?_).trans (by simp [Instr.mnemonic])
    split_ifs
    · exact reject_stateErr_ne_respond (by simp) (by decide)
    · nofun
    · exact reject_stateErr_ne_respond (by simp) (by decide)
  | txSend =>
    refine (Ne.ite_eq_left_iff ?_).trans (by simp [Instr.mnemonic])
    split_ifs
    · exact reject_stateErr_ne_respond rfl (by decide)
    · nofun
    · exact reject_stateErr_ne_respond (by simp) (by decide)
  | close =>
    simp only [exec, execClose]
    split
    · next hc =>
      have hs : s.state ≠ .rxwait := fun hs => by simp [hopen hs] at hc
      exact iff_of_false (reject_stateErr_ne_respond rfl (by decide)).symm (by simp [Instr.mnemonic, hs])
    · exact (reject_stateErr_ne_respond (by rfl) (by decide)).ite_eq_left_iff.trans (by simp [Instr.mnemonic])
  | readRx k =>
    refine (Ne.ite_eq_left_iff ?_).trans (by simp [Instr.mnemonic])
    split_ifs <;> exact reject_stateErr_ne_respond rfl (by decide)

/-- The code STATE_ERR comes with the STATE_ERR rejection only. -/
theorem Effect.eq_of_stateErr {u : State} {i : Instr} (e : Effect s i .stateErr u) : u = s := by
  cases e with
  | rejected => rfl

end

/-- Settles O47: a refusal is the STATE_ERR rejection by `exec_eq_reject_stateErr_iff`, whose premise is item 2 of 10_state.md R55;
an accepted instruction does not stop, by item 1, and would be refused if its code were STATE_ERR. -/
theorem acceptanceByState : Obligations.AcceptanceByState := by
  intro i s hinv
  have hiff := exec_eq_reject_stateErr_iff hinv.exchange.rxwaitOpen i
  refine ⟨hiff.2, fun haccepted => ?_⟩
  obtain ⟨t, ht⟩ := exec_next_of_txlen_le (fun ha => (hinv.exchange.assembleLen ha).2) i
  obtain ⟨code, data, u, e, hdata, rfl⟩ := exec_effect ht
  refine ⟨_, code.toOctet, data, ht, by simp [e.rspOut_eq], fun hcode => ?_⟩
  obtain rfl := RspCode.toOctet_eq_stateErr_iff.1 hcode
  obtain rfl := hdata (by decide)
  rw [e.eq_of_stateErr] at ht
  exact Bool.noConfusion (haccepted.symm.trans (hiff.1 ht))

end Sys2Proof.Machine

/-! SUPPORT. RESET (70_reset_and_hazards.md R240, R241): from any state it leaves the power-on state, but for LINE_OUT and the
model's own two lists, which stay. -/

namespace Sys2Proof.Machine

theorem step_reset {s : State} {rest : List Input} (hi : s.inputs = .reset :: rest) :
    step s = .next (resetEvent { s with inputs := rest }) := by
  simp only [step, hi, runInput]

theorem resetEvent_eq_powerOn (s : State) :
    resetEvent s = { State.reset with lineOut := s.lineOut, rspOut := s.rspOut, inputs := s.inputs } := rfl

theorem State.SameDefined.refl (s : State) : s.SameDefined s := ⟨rfl, rfl, rfl⟩

/-- Settles O30: the state RESET leaves, field by field. -/
theorem resetSetsEveryRegister : Obligations.ResetSetsEveryRegister := by
  intro s rest hi
  exact ⟨_, step_reset hi, by simp⟩

/-- Settles O31: with the three kept lists set aside, the state RESET leaves is the power-on state itself. -/
theorem powerOnIsTheStateAfterReset : Obligations.PowerOnIsTheStateAfterReset := by
  refine ⟨rfl, fun s rest hi => ⟨_, step_reset hi, ?_⟩⟩
  rw [resetEvent_eq_powerOn]
  exact State.SameDefined.refl State.reset

end Sys2Proof.Machine

/-! SUPPORT. Decoding an encoded word (30_encoding.md R80 to R87): each format gives back the operand it was given, and a READ it
accepts names a register. -/

namespace Sys2Proof

@[simp] theorem formatB_octet (b : Octet) (mk : Octet → Instr) : formatB (b.setWidth 24) mk = .ok (mk b) := by
  simp [formatB]

@[simp] theorem formatM_flag (m : Bool) (mk : Bool → Instr) :
    formatM ((BitVec.ofBool m).setWidth 24) mk = .ok (mk m) := by
  simp only [formatM, mbz_of_flag_arg, flag_of_arg, if_true]

theorem formatRead_octet {r : Octet} (h : r ≤ 0x0E#8) : formatRead (r.setWidth 24) = .ok (.read r) := by
  simp [formatRead, h]

theorem decode_encode {i : Instr} (h : i.wellFormed = true) : decode (encode i) = .ok i := by
  cases i with
  | nop => exact decode_append_eq_formatZ (i := .nop) (by simp) _
  | crcInit => exact decode_append_eq_formatZ (i := .crcInit) (by simp) _
  | crcRead => exact decode_append_eq_formatZ (i := .crcRead) (by simp) _
  | txSend => exact decode_append_eq_formatZ (i := .txSend) (by simp) _
  | close => exact decode_append_eq_formatZ (i := .close) (by simp) _
  | crcUpdate b => exact (decode_append_eq_formatB (mk := .crcUpdate) (by simp) _).trans (formatB_octet b _)
  | setStation a => exact (decode_append_eq_formatB (mk := .setStation) (by simp) _).trans (formatB_octet a _)
  | txBegin fc => exact (decode_append_eq_formatB (mk := .txBegin) (by simp) _).trans (formatB_octet fc _)
  | txData b => exact (decode_append_eq_formatB (mk := .txData) (by simp) _).trans (formatB_octet b _)
  | readTx k => exact (decode_append_eq_formatB (mk := .readTx) (by simp) _).trans (formatB_octet k _)
  | readRx k => exact (decode_append_eq_formatB (mk := .readRx) (by simp) _).trans (formatB_octet k _)
  | setBaud w => exact decode_append_eq_formatW w
  | setMode m => exact (decode_append_eq_formatM _).trans (formatM_flag m _)
  | read r => exact (decode_append_eq_formatRead _).trans (formatRead_octet (of_decide_eq_true h))

theorem wellFormed_of_decode_eq_ok {w : Word} {i : Instr} (h : decode w = .ok i) : i.wellFormed = true := by
  cases i with
  | read r =>
    obtain rfl := encode_of_decode_eq_ok h
    obtain ⟨r', hr, hle, -⟩ := formatRead_eq_ok ((decode_append_eq_formatRead _).symm.trans h)
    cases hr
    exact decide_eq_true hle
  | _ => rfl

/-- A word that matches a row under its mask has the opcode of the row's mnemonic, READ's extra condition set aside. -/
theorem opField_of_masked {r : OpcodeRow} {w : Word} (hr : r ∈ opcodeTable) (h : w &&& r.mask = r.pattern) :
    opField w = r.mnemonic.opcode := by
  obtain ⟨hmask, hpattern⟩ := opcodeTable_opcode r hr
  calc opField w = opField w &&& opField r.mask := by rw [hmask]; exact BitVec.and_allOnes.symm
    _ = opField (w &&& r.mask) := BitVec.extractLsb'_and.symm
    _ = r.mnemonic.opcode := by rw [h, hpattern]

/-- Settles O1: the round trip of the formats. -/
theorem decodeOfEncodeIsTheInstruction : Obligations.DecodeOfEncodeIsTheInstruction := fun _ => decode_encode

/-- Settles O2: the encoding is that of `encode_of_decode_eq_ok`, and only READ has a condition. -/
theorem encodeOfDecodeIsTheWord : Obligations.EncodeOfDecodeIsTheWord :=
  fun _ _ h => ⟨wellFormed_of_decode_eq_ok h, encode_of_decode_eq_ok h⟩

/-- Settles O4: a row is found by the opcode, which the word has one of. -/
theorem opcodeRowsAreDisjoint : Obligations.OpcodeRowsAreDisjoint := fun _ r₁ r₂ h₁ h₂ hw₁ hw₂ =>
  opcodeTable_opcode_injective r₁ h₁ r₂ h₂ ((opField_of_masked h₁ hw₁).symm.trans (opField_of_masked h₂ hw₂))

/-- Settles O7: each word is the encoding of a well-formed instruction. -/
theorem specWordsDecode : Obligations.SpecWordsDecode :=
  ⟨decode_encode (i := .nop) rfl, decode_encode (i := .crcUpdate 0x06#8) rfl, decode_encode (i := .crcRead) rfl,
    decode_encode (i := .setStation 0x06#8) rfl, decode_encode (i := .setBaud 9600#24) rfl,
    decode_encode (i := .setMode true) rfl, decode_encode (i := .txBegin 0x04#8) rfl, decode_encode (i := .txSend) rfl,
    decode_encode (i := .close) rfl, decode_encode (i := .read 0x0E#8) rfl, decode_encode (i := .readRx 0xFF#8) rfl⟩

end Sys2Proof

/-! SUPPORT. The assembled word of a mnemonic and an operand (30_encoding.md R92), told as opcode above argument. -/

namespace Sys2Proof.Asm

/-- An operand shifted under its opcode is the argument field. -/
theorem shifted_or_eq_append (op : Octet) {v : Nat} (hv : v < 2 ^ 24) :
    op.setWidth 32 <<< 24 ||| BitVec.ofNat 32 v = op ++ BitVec.ofNat 24 v := by
  refine BitVec.eq_of_toNat_eq ?_
  have hop : op.toNat <<< 24 < 2 ^ 32 := by have := op.isLt; omega
  rw [BitVec.toNat_append, BitVec.toNat_or, BitVec.toNat_shiftLeft, BitVec.toNat_setWidth, BitVec.toNat_ofNat,
    BitVec.toNat_ofNat, Nat.mod_eq_of_lt hv, Nat.mod_eq_of_lt (by omega : v < 2 ^ 32),
    Nat.mod_eq_of_lt (by have := op.isLt; omega : op.toNat < 2 ^ 32), Nat.mod_eq_of_lt hop]

/-- Every operand a format allows fits the argument field. -/
theorem Format.limit_lt {f : Format} {top : Nat} (h : f.limit = some top) : top < 2 ^ 24 := by
  cases f <;> cases h <;> decide

section
variable {m : Mnemonic} {w : Word}

theorem assembleWord_none_eq_some_iff :
    assembleWord m none = some w ↔ (format m).limit = none ∧ m.opcode ++ 0#24 = w := by
  unfold assembleWord
  cases h : (format m).limit with
  | none => simp [← shifted_or_eq_append m.opcode (v := 0) (by decide)]
  | some top => simp

theorem assembleWord_some_eq_some_iff {v : Nat} : assembleWord m (some v) = some w ↔
    ∃ top, (format m).limit = some top ∧ v ≤ top ∧ m.opcode ++ BitVec.ofNat 24 v = w := by
  unfold assembleWord
  cases h : (format m).limit with
  | none => simp
  | some top =>
    have hv (hle : v ≤ top) := shifted_or_eq_append m.opcode (hle.trans_lt (Format.limit_lt h))
    by_cases hle : v ≤ top <;> simp [hle, hv]

/-- An operand gives a word exactly up to the limit of the mnemonic's format. -/
theorem exists_assembleWord_iff {top : Nat} (h : (format m).limit = some top) (v : Nat) :
    (∃ w, assembleWord m (some v) = some w) ↔ v ≤ top := by
  simp [assembleWord_some_eq_some_iff, h]

theorem assembleWord_fields {operand : Option Nat} (h : assembleWord m operand = some w) :
    opField w = m.opcode ∧ (argField w).toNat = operand.getD 0 := by
  cases operand with
  | none =>
    obtain ⟨-, rfl⟩ := assembleWord_none_eq_some_iff.1 h
    simp
  | some v =>
    obtain ⟨top, htop, hle, rfl⟩ := assembleWord_some_eq_some_iff.1 h
    simpa using hle.trans_lt (Format.limit_lt htop)

end

/-- The format Z mnemonics are those without a limit. -/
theorem limit_eq_none_iff {m : Mnemonic} :
    (format m).limit = none ↔ m ∈ [.NOP, .CRC_INIT, .CRC_READ, .TX_SEND, .CLOSE] := by
  cases m <;> decide

theorem exists_operand_of_encode (i : Instr) : ∃ operand, assembleWord i.mnemonic operand = some (encode i) := by
  have harg (top : Nat) (h : (format i.mnemonic).limit = some top) (hle : i.arg.toNat ≤ top) :
      ∃ operand, assembleWord i.mnemonic operand = some (encode i) :=
    ⟨some i.arg.toNat, assembleWord_some_eq_some_iff.2 ⟨top, h, hle, by rw [BitVec.ofNat_toNat, BitVec.setWidth_eq]; rfl⟩⟩
  have hoctet (b : Octet) : (b.setWidth 24).toNat ≤ 255 := by
    rw [BitVec.toNat_setWidth_of_le (by decide)]
    exact Nat.le_of_lt_succ b.isLt
  cases i with
  | nop | crcInit | crcRead | txSend | close => exact ⟨none, assembleWord_none_eq_some_iff.2 ⟨rfl, rfl⟩⟩
  | setBaud w => exact harg _ rfl (Nat.le_of_lt_succ w.isLt)
  | setMode m => exact harg _ rfl (by cases m <;> decide)
  | crcUpdate _ | setStation _ | txBegin _ | txData _ | read _ | readTx _ | readRx _ => exact harg _ rfl (hoctet _)

/-- Settles O8: the fields of an assembled word, the limit of each format, and the operand of each instruction. -/
theorem assembledWordHoldsOpcodeAndOperand : Obligations.AssembledWordHoldsOpcodeAndOperand := by
  refine ⟨fun m operand w h => assembleWord_fields h, fun m hm v => exists_assembleWord_iff ?_ v,
    exists_assembleWord_iff rfl, exists_assembleWord_iff rfl,
    fun m => ⟨fun hz => ⟨⟨m.opcode ++ 0#24, ?_⟩, fun v => ?_⟩, fun hz => ?_⟩, exists_operand_of_encode⟩
  · cases m <;> simp at hm <;> rfl
  · exact assembleWord_none_eq_some_iff.2 ⟨limit_eq_none_iff.2 hz, rfl⟩
  · simp [Option.eq_none_iff_forall_ne_some, assembleWord_some_eq_some_iff, limit_eq_none_iff.2 hz]
  · simp [Option.eq_none_iff_forall_ne_some, assembleWord_none_eq_some_iff, mt limit_eq_none_iff.1 hz]

end Sys2Proof.Asm

/-! The step on a command word, and on none (20_memory.md R70; 60_exceptions.md R224). -/

namespace Sys2Proof.Machine

theorem step_of_no_input {s : State} (hi : s.inputs = []) : step s = .next s := by
  simp only [step, hi]

theorem tableWord_of_lt {w : Nat} (hw : w < 2 ^ 32) : tableWord 32 w = BitVec.ofNat 32 w := by
  rw [tableWord, Nat.mod_eq_of_lt hw]

/-- Settles O9, by the step on a word that decodes. -/
theorem stepRunsTheDecodedCommand : Obligations.StepRunsTheDecodedCommand := fun _ _ _ _ => step_of_decode_ok

/-- Settles O10: the word `withFetchWord` places is the next input, and taking it off again leaves the state. -/
theorem stepWithoutInputKeepsTheState : Obligations.StepWithoutInputKeepsTheState := by
  refine ⟨fun s => step_of_no_input, fun s w i hw hd => ?_⟩
  exact step_of_decode_ok (s := s.withFetchWord 32 w) rfl ((congrArg decode (tableWord_of_lt hw)).trans hd)

end Sys2Proof.Machine

/-! SUPPORT. The checksum step through its two octets (40_checksum.md R118), and what follows from it: the residue of a sequence with
its own checksum (R116), the fixed points of a zero octet (R114), and that a flipped bit is seen (R117). -/

namespace Sys2Proof.Machine

/-- While the low bits are zero a shift only shifts. -/
theorem crcShifts_of_low_zero {n : Nat} {c : Crc} (h : ∀ i < n, c.getLsbD i = false) :
    Nat.repeat crcShift n c = c >>> n := by
  induction n with
  | zero => simp [Nat.repeat]
  | succ n ih =>
    have hbit : (c >>> n).getLsbD 0 = false := by simpa using h n (Nat.lt_succ_self n)
    rw [Nat.repeat, ih fun i hi => h i (Nat.lt_succ_of_lt hi), crcShift, hbit, BitVec.shiftRight_add]
    rfl

/-- A register is its high octet, in place, and its low octet. -/
theorem xor_crcLo (c : Crc) : c = (c >>> 8) <<< 8 ^^^ (crcLo c).setWidth 16 := by
  refine BitVec.eq_of_getLsbD_eq fun i hi => ?_
  by_cases h : i < 8
  · simp [crcLo, h, hi]
  · simp [crcLo, h, hi, show 8 + (i - 8) = i by omega]

theorem crcHi_setWidth (c : Crc) : (crcHi c).setWidth 16 = c >>> 8 := by
  refine BitVec.eq_of_getLsbD_eq fun i hi => ?_
  by_cases h : i < 8
  · simp [crcHi, h, hi]
  · simp [crcHi, h, show 16 ≤ 8 + i by omega]

/-- The step by the high octet, which is only shifted, and by the low octet, which is looked up with the new one. -/
theorem crc16Step_eq_table (c : Crc) (b : Octet) : crc16Step c b = c >>> 8 ^^^ crc16Step 0x0000#16 (crcLo c ^^^ b) := by
  have hhigh : Nat.repeat crcShift 8 ((c >>> 8) <<< 8) = c >>> 8 := by
    rw [crcShifts_of_low_zero fun i hi => by simp [hi]]
    refine BitVec.eq_of_getLsbD_eq fun i hi => ?_
    by_cases h : 8 + i < 16
    · simp [h]
    · simp [show 16 ≤ 8 + i by omega]
  calc crc16Step c b
      = Nat.repeat crcShift 8 ((c >>> 8) <<< 8 ^^^ ((crcLo c).setWidth 16 ^^^ b.setWidth 16)) := by
        rw [← BitVec.xor_assoc, ← xor_crcLo]; rfl
    _ = c >>> 8 ^^^ crc16Step 0x0000#16 (crcLo c ^^^ b) := by
        rw [crcShifts_xor, hhigh, ← BitVec.setWidth_xor, crc16Step, BitVec.zero_xor]

@[simp] theorem crc16Step_zero : crc16Step 0x0000#16 0x00#8 = 0x0000#16 := by decide

/-- A register's own octets, low first, clear it. -/
theorem crc16Step_own_octets (c : Crc) : crc16Step (crc16Step c (crcLo c)) (crcHi c) = 0x0000#16 := by
  have hlow : crc16Step c (crcLo c) = c >>> 8 := by
    rw [crc16Step_eq_table, BitVec.xor_self, crc16Step_zero, BitVec.xor_zero]
  rw [hlow, crc16Step, crcHi_setWidth, BitVec.xor_self]
  exact crc16Step_zero

/-- The registers a zero octet keeps: such a register is a function of its low octet, so the 256 low octets decide. -/
theorem crc16Step_zero_octet_eq_iff (c : Crc) : crc16Step c 0x00#8 = c ↔ c = 0x0000#16 ∨ c = 0xC001#16 := by
  have hlow : ∀ lo : Octet, crcLo (crc16Step 0x0000#16 lo >>> 8 ^^^ crc16Step 0x0000#16 lo) = lo →
      lo = 0x00#8 ∨ lo = 0x01#8 := by decide +kernel
  constructor
  · intro h
    rw [crc16Step_eq_table, BitVec.xor_zero] at h
    have hhigh : c >>> 8 = crc16Step 0x0000#16 (crcLo c) >>> 8 := by
      have hshift := congrArg (BitVec.ushiftRight · 8) h
      simpa [BitVec.ushiftRight_xor_distrib, ← BitVec.shiftRight_add, BitVec.ushiftRight_eq_zero, eq_comm] using hshift
    rw [hhigh] at h
    rw [← h]
    obtain hlo | hlo := hlow _ (congrArg crcLo h) <;> rw [hlo] <;> decide
  · rintro (rfl | rfl) <;> decide

/-- Different octets take a register apart. -/
theorem crc16Step_octet_inj {c : Crc} {b d : Octet} (h : crc16Step c b = crc16Step c d) : b = d := by
  have hw := (BitVec.xor_right_inj c).1 (crcShifts_inj h)
  simpa using congrArg (BitVec.setWidth 8) hw

/-- Different registers stay different under the same octets. -/
theorem foldl_crc16Step_inj {c d : Crc} (octets : List Octet)
    (h : octets.foldl crc16Step c = octets.foldl crc16Step d) : c = d := by
  induction octets generalizing c d with
  | nil => exact h
  | cons b octets ih => exact crc16Step_inj (ih h)

theorem xor_bit_ne (b : Octet) {k : Nat} (hk : k < 8) : b ^^^ (1#8 <<< k) ≠ b := by
  intro h
  have hbit := congrArg (·.getLsbD k) h
  simp [hk] at hbit

/-- Settles O52, by the step through its two octets. -/
theorem tableDrivenStepIsTheBitwiseStep : Obligations.TableDrivenStepIsTheBitwiseStep := crc16Step_eq_table

/-- Settles O50: after the sequence the register holds the checksum, which its own octets clear. -/
theorem checksumResidueIsZero : Obligations.ChecksumResidueIsZero := fun s =>
  (crc16_append s _).trans (crc16Step_own_octets (crc16 s))

/-- Settles O51: the octets before leave one register, the flipped octet takes it apart, and no octet after joins what is apart. -/
theorem singleBitFlipChangesTheChecksum : Obligations.SingleBitFlipChangesTheChecksum := by
  intro before after b k hk h
  rw [crc16_append, crc16_append] at h
  exact xor_bit_ne b hk (crc16Step_octet_inj (foldl_crc16Step_inj after h))

/-- Settles O49, by evaluation of the worked values. -/
theorem checksumWorkedValues : Obligations.ChecksumWorkedValues := by
  refine ⟨?_, crc16_nil, ?_, ?_⟩ <;> decide +kernel

/-- Settles O13: the effect of CRC_UPDATE and its word in format B; the corner cases are laws of the step. -/
theorem crcUpdateFoldsOneOctet : Obligations.CrcUpdateFoldsOneOctet :=
  ⟨fun b _ => (Effect.crcUpdate b).exec_eq (by simp [Instr.mnemonic]), decode_append_eq_formatB (mk := .crcUpdate) (by simp),
    crc16Step_zero_octet_eq_iff, by decide, fun message => crc16Step_own_octets (message.foldl crc16Step 0xFFFF#16),
    by decide, by decide⟩

end Sys2Proof.Machine

/-! SUPPORT. The timing functions and their ranges (42_timing.md R151 to R155, 10_state.md R44). -/

namespace Sys2Proof.Machine

theorem charFrameDelay_of_fixed {baud : BitVec 24} (h : baud.toNat = 0 ∨ 19200 < baud.toNat) :
    charFrameDelay baud = (750, 1750) := by
  have hb : baud = 0#24 ↔ baud.toNat = 0 := by simp [← BitVec.toNat_inj]
  rw [charFrameDelay, if_pos (by rwa [hb])]

theorem charFrameDelay_of_rate {baud : BitVec 24} (h : 0 < baud.toNat) (hle : baud.toNat ≤ 19200) :
    charFrameDelay baud = (15000000 / baud.toNat, 35000000 / baud.toNat) := by
  have hb : baud = 0#24 ↔ baud.toNat = 0 := by simp [← BitVec.toNat_inj]
  rw [charFrameDelay, if_neg (by rw [hb]; simp only [Config.baudThreshold]; omega)]

/-- A truncated quotient is the largest number that does not exceed the dividend. -/
theorem div_bounds (a : Nat) {b : Nat} (hb : 0 < b) : a / b * b ≤ a ∧ a < (a / b + 1) * b :=
  ⟨Nat.div_mul_le_self a b, Nat.lt_mul_of_div_lt (Nat.lt_succ_self _) hb⟩

/-- Settles O34: the two cases of the rate, the quotients told by what truncation means. -/
theorem delaysByBaudRate : Obligations.DelaysByBaudRate := by
  refine ⟨fun baud => charFrameDelay_of_fixed, fun baud h hle => ?_, by decide, by decide, by decide⟩
  obtain ⟨hchar, hchar'⟩ := div_bounds 15000000 h
  obtain ⟨hframe, hframe'⟩ := div_bounds 35000000 h
  exact ⟨_, _, charFrameDelay_of_rate h hle, hchar, hchar', hframe, hframe'⟩

/-- The delays are the fixed ones or at least those of the highest rate (10_state.md R44). -/
theorem charFrameDelay_ranges (baud : BitVec 24) :
    ((charFrameDelay baud).1 = 750 ∨ (781 ≤ (charFrameDelay baud).1 ∧ (charFrameDelay baud).1 ≤ 15000000)) ∧
    ((charFrameDelay baud).2 = 1750 ∨ (1822 ≤ (charFrameDelay baud).2 ∧ (charFrameDelay baud).2 ≤ 35000000)) := by
  by_cases h : baud.toNat = 0 ∨ 19200 < baud.toNat
  · simp [charFrameDelay_of_fixed h]
  · have hpos : 0 < baud.toNat := by omega
    have hle : baud.toNat ≤ 19200 := by omega
    rw [charFrameDelay_of_rate hpos hle]
    exact ⟨.inr ⟨(Nat.div_le_div_left hle hpos).trans' (by decide), Nat.div_le_self ..⟩,
      .inr ⟨(Nat.div_le_div_left hle hpos).trans' (by decide), Nat.div_le_self ..⟩⟩

/-- The groups of function codes with the longest response of each, for a quantity of 16 bits. -/
theorem predictedLen_cases (fc : Octet) {count : Nat} (h : count < 65536) :
    4 ≤ predictedLen fc count ∧
    ((fc.toNat ≤ 2 ∧ predictedLen fc count ≤ 8197) ∨ (fc.toNat ≤ 4 ∧ predictedLen fc count ≤ 131075) ∨
      (fc.toNat ≤ 16 ∧ predictedLen fc count ≤ 8) ∨ (fc.toNat ≤ 255 ∧ predictedLen fc count ≤ 4)) := by
  obtain ⟨hbits, hregisters, hwrites, hother⟩ := predictedLengthByFunctionCode.2 fc count h
  simp only [List.mem_cons, List.not_mem_nil, or_false] at hbits hregisters hwrites hother
  by_cases h12 : fc.toNat = 1 ∨ fc.toNat = 2
  · obtain ⟨q, hq, -, -, hmax⟩ := hbits h12
    omega
  · omega

theorem predictedLen_ranges (fc : Octet) {count : Nat} (h : count < 65536) :
    4 ≤ predictedLen fc count ∧ predictedLen fc count ≤ 131075 := by
  have hcases := predictedLen_cases fc h
  omega

/-- Of 256 octets and the predicted ones, times the function code, the most are those of code 4. -/
theorem predictedLen_mul_code_le (fc : Octet) {count : Nat} (h : count < 65536) :
    (256 + predictedLen fc count) * fc.toNat ≤ 525324 := by
  have hmul {top code : Nat} (hfc : fc.toNat ≤ code) (hlen : predictedLen fc count ≤ top) :
      (256 + predictedLen fc count) * fc.toNat ≤ (256 + top) * code := Nat.mul_le_mul (Nat.add_le_add_left hlen _) hfc
  obtain ⟨-, ⟨hfc, hlen⟩ | ⟨hfc, hlen⟩ | ⟨hfc, hlen⟩ | ⟨hfc, hlen⟩⟩ := predictedLen_cases fc h <;>
    exact (hmul hfc hlen).trans (by decide)

namespace State

theorem quantity_lt (s : State) : s.quantity < 65536 := by
  have h4 := (s.aduOctet 4).isLt
  have h5 := (s.aduOctet 5).isLt
  unfold quantity
  omega

theorem predLen_ranges (s : State) : 4 ≤ s.predLen ∧ s.predLen ≤ 131075 := predictedLen_ranges _ s.quantity_lt

/-- The largest count is that of code 4, which predicts up to 131075 octets: every other long response is that of a smaller code. -/
theorem charCount_le {s : State} (h : s.txlen.toNat ≤ 256) : s.charCount s.predLen ≤ 525324 := by
  obtain ⟨hlo, hhi⟩ := s.predLen_ranges
  simp only [charCount]
  split
  · exact (Nat.mul_le_mul_right _ (Nat.add_le_add_right h _)).trans (predictedLen_mul_code_le _ s.quantity_lt)
  · omega

end State

/-- A number that fits its register is kept exactly. -/
theorem toNat_ofNat_of_le {n top v : Nat} (hv : v ≤ top) (htop : top < 2 ^ n) : (BitVec.ofNat n v).toNat = v := by
  rw [BitVec.toNat_ofNat, Nat.mod_eq_of_lt (hv.trans_lt htop)]

/-- Settles O35: each value is within the range of its register, so the register keeps it; DELAY is at most the product of the
largest values. -/
theorem timingRegistersHoldExactValues : Obligations.TimingRegistersHoldExactValues := by
  intro s _ hlen t
  obtain ⟨hpredlo, hpredhi⟩ := s.predLen_ranges
  obtain ⟨hchar, hframe⟩ := charFrameDelay_ranges s.baud
  have hcount := State.charCount_le hlen
  have hchar_le : (charFrameDelay s.baud).1 ≤ 15000000 := by omega
  have hframe_le : (charFrameDelay s.baud).2 ≤ 35000000 := by omega
  have hdelay_le : totalDelay (s.charCount s.predLen) (charFrameDelay s.baud).1 (charFrameDelay s.baud).2 ≤ 7879895000000 :=
    (Nat.add_le_add (Nat.mul_le_mul hchar_le hcount) hframe_le).trans (by decide)
  have hpred : t.predlen.toNat = s.predLen := toNat_ofNat_of_le hpredhi (by decide)
  have hcharcnt : t.charcnt.toNat = s.charCount s.predLen := toNat_ofNat_of_le hcount (by decide)
  have hchardelay : t.chardelay.toNat = (charFrameDelay s.baud).1 := toNat_ofNat_of_le hchar_le (by decide)
  have hframedelay : t.framedelay.toNat = (charFrameDelay s.baud).2 := toNat_ofNat_of_le hframe_le (by decide)
  have hdelay : t.delay.toNat = _ := toNat_ofNat_of_le hdelay_le (by decide)
  rw [hpred, hcharcnt, hchardelay, hframedelay, hdelay]
  exact ⟨rfl, hpredlo, hpredhi, rfl, hcount, rfl, hchar, rfl, hframe, rfl, hdelay_le⟩

end Sys2Proof.Machine

/-! SUPPORT. The frame under assembly and the request ADU as lists of octets (41_frame_codec.md R130 to R132, 43_transport.md R174), and
the timing functions as functions of that list (42_timing.md R151, R153). -/

namespace Sys2Proof.Machine

namespace State

@[simp] theorem length_txFrame (s : State) : s.txFrame.length = s.txlen.toNat := by simp [txFrame]

theorem read_txbuf_eq {s : State} {i : Nat} (h : i < s.txlen.toNat) : s.txbuf.read i = s.txFrame.getD i 0x00#8 :=
  (Memory.getD_octets s.txbuf h _).symm

theorem aduOctet_eq (s : State) (i : Nat) : s.aduOctet i = s.txFrame.getD i 0x00#8 := by
  unfold aduOctet
  split
  · next h => exact read_txbuf_eq h
  · next h => exact (Memory.getD_octets_beyond s.txbuf (Nat.le_of_not_lt h) _).symm

theorem predLen_eq {s : State} (h : 2 ≤ s.txlen.toNat) :
    s.predLen = predictedLen (s.txFrame.getD 1 0x00#8)
      ((s.txFrame.getD 4 0x00#8).toNat * 256 + (s.txFrame.getD 5 0x00#8).toNat) := by
  rw [predLen, quantity, aduOctet_eq, aduOctet_eq, read_txbuf_eq h]

theorem charCount_eq {s : State} (h : 2 ≤ s.txlen.toNat) (chars : Nat) :
    s.charCount chars = if s.ccFcMult then (s.txFrame.length + chars) * (s.txFrame.getD 1 0x00#8).toNat
      else s.txFrame.length + chars := by
  rw [charCount, length_txFrame, read_txbuf_eq h]

/-! ### What the assembly commands leave in TXBUF -/

section
variable {s : State} (hbuf : s.txbuf.wf = true)
include hbuf

theorem read_beginFrame (fc : Octet) (a : Nat) :
    (s.beginFrame fc).txbuf.read a = if a = 1 then fc else if a = 0 then s.station else s.txbuf.read a := by
  rw [beginFrame_txbuf, Memory.read_write (Memory.wf_write hbuf (by decide) _), Memory.read_write hbuf]

theorem txFrame_beginFrame (fc : Octet) : (s.beginFrame fc).txFrame = [s.station, fc] := by
  change (s.beginFrame fc).txbuf.octets 0 (0 + 1 + 1) = _
  simp only [Memory.octets_succ, Memory.octets_self, read_beginFrame hbuf]
  rfl

theorem txFrame_appendData (b : Octet) (hlen : s.txlen.toNat < 256) : (s.appendData b).txFrame = s.txFrame ++ [b] := by
  have hfits : s.txlen.toNat + 1 < 2 ^ 9 := by omega
  rw [txFrame, appendData_txlen, BitVec.toNat_add_of_lt hfits]
  exact Memory.octets_write_end hbuf _ b

theorem read_appendCrc {a : Nat} (hlen : s.txlen.toNat ≤ 254) : s.appendCrc.txbuf.read a =
    if a = s.txlen.toNat + 1 then crcHi s.txcrc else if a = s.txlen.toNat then crcLo s.txcrc else s.txbuf.read a := by
  rw [appendCrc_txbuf, Memory.read_write (Memory.wf_write hbuf (by omega) _), Memory.read_write hbuf]

theorem wf_appendCrc (hlen : s.txlen.toNat ≤ 254) : s.appendCrc.txbuf.wf = true :=
  Memory.wf_write (Memory.wf_write hbuf (by omega) _) (by omega) _

theorem txFrame_appendCrc (hlen : s.txlen.toNat ≤ 254) : s.appendCrc.txFrame = s.txFrame ++ crcOctets s.txcrc := by
  have hfits : s.txlen.toNat + 2 < 2 ^ 9 := by omega
  rw [txFrame, appendCrc_txlen, BitVec.toNat_add_of_lt hfits]
  change ((s.txbuf.write _ _).write _ _).octets 0 (s.txlen.toNat + 1 + 1) = _
  rw [Memory.octets_write_end (Memory.wf_write hbuf (by omega) _), Memory.octets_write_end hbuf, List.append_assoc]
  rfl

end

theorem appendData_txlen_toNat {s : State} (b : Octet) (hlen : s.txlen.toNat < 256) :
    (s.appendData b).txlen.toNat = s.txlen.toNat + 1 := by
  have hfits : s.txlen.toNat + 1 < 2 ^ 9 := by omega
  exact BitVec.toNat_add_of_lt hfits

theorem transmit_txlen_toNat {s : State} (hlen : s.txlen.toNat ≤ 254) : s.transmit.txlen.toNat = s.txlen.toNat + 2 := by
  have hfits : s.txlen.toNat + 2 < 2 ^ 9 := by omega
  rw [transmit_txlen]
  exact BitVec.toNat_add_of_lt hfits

theorem transmit_txFrame (s : State) : s.transmit.txFrame = s.appendCrc.txFrame := by
  simp only [txFrame, transmit_txbuf, transmit_txlen, appendCrc_txlen]

end State

/-! ### The refusals of the assembly commands and of TX_SEND, and their stops -/

section
variable {s : State}

theorem exec_txBegin_of_rxwait (fc : Octet) (hs : s.state = .rxwait) :
    exec (.txBegin fc) s = .next (s.reject .stateErr) := if_pos hs

theorem exec_txData_of_not_assemble (b : Octet) (hs : s.state ≠ .assemble) :
    exec (.txData b) s = .next (s.reject .stateErr) := if_pos hs

theorem exec_txData_of_full (b : Octet) (hs : s.state = .assemble) (hlen : s.txlen.toNat = 254) :
    exec (.txData b) s = .next (s.discardFrame.respond .frameTooLarge 0#32) :=
  (if_neg (not_not.2 hs)).trans (if_pos hlen)

theorem exec_txData_of_no_octet (b : Octet) (hs : s.state = .assemble) (hlen : 256 ≤ s.txlen.toNat) :
    exec (.txData b) s = .fault .noSuchOctet := by
  have hfull : s.txlen.toNat ≠ 254 := by omega
  simp [exec, execTxData, hs, hfull, hlen]

theorem exec_txSend_of_not_assemble (hs : s.state ≠ .assemble) : exec .txSend s = .next (s.reject .stateErr) := if_pos hs

theorem exec_txSend_of_closed (hs : s.state = .assemble) (hc : s.closed = true) :
    exec .txSend s = .next (s.reject .channelClosed) :=
  (if_neg (not_not.2 hs)).trans (if_pos hc)

theorem exec_txSend_of_no_octet (hs : s.state = .assemble) (hc : s.closed = false) (hlen : 254 < s.txlen.toNat) :
    exec .txSend s = .fault .noSuchOctet := by
  have hroom : 256 < s.txlen.toNat + 2 := by omega
  simp [exec, execTxSend, hs, hc, hroom]

end

/-- Settles O20: the effect of TX_BEGIN and what it writes in TXBUF, its refusal, and its word in format B. -/
theorem txBeginStartsAFrame : Obligations.TxBeginStartsAFrame := by
  refine ⟨fun fc s hbuf hs => ?_, fun fc s hs => exec_txBegin_of_rxwait fc hs,
    decode_append_eq_formatB (mk := .txBegin) (by simp)⟩
  have hread := State.read_beginFrame hbuf.tx fc
  exact ⟨_, (Effect.txBegin fc hs).exec_eq (by simp [Instr.mnemonic]), rfl, (hread 0).trans (by simp),
    (hread 1).trans (by simp), fun a h0 h1 => (hread a).trans (by simp [h0, h1])⟩

/-- Settles O21: the effect of TX_DATA, the discarded frame, the refusal, and its word in format B. -/
theorem txDataAppendsOneOctet : Obligations.TxDataAppendsOneOctet := by
  refine ⟨fun b s hbuf hs hlen hfull => ?_, fun b s hs hfull => exec_txData_of_full b hs hfull,
    fun b s hs => exec_txData_of_not_assemble b hs, decode_append_eq_formatB (mk := .txData) (by simp)⟩
  exact ⟨_, (Effect.txData b hs hlen hfull).exec_eq (by simp [Instr.mnemonic]), rfl, s.appendData_txlen_toNat b hlen,
    Memory.read_write_same hbuf.tx _ b, fun a ha => Memory.read_write_ne hbuf.tx ha b⟩

/-- Settles O22: the ADU is the frame with its CRC octets; the timing registers hold the timing functions' values for it, by O35. -/
theorem txSendTransmitsTheFrame : Obligations.TxSendTransmitsTheFrame := by
  refine ⟨fun s hbuf hs hopen hlo hhi => ?_, fun s => exec_txSend_of_not_assemble, fun s => exec_txSend_of_closed,
    decode_append_eq_formatZ (i := .txSend) (by decide)⟩
  refine ⟨_, (Effect.txSend hs hopen hhi).exec_eq (by decide), ?_⟩
  intro adu fc count chars
  have hadu : s.appendCrc.txFrame = adu := State.txFrame_appendCrc hbuf.tx hhi
  have hlen : s.appendCrc.txlen.toNat = s.txlen.toNat + 2 := by
    rw [← State.transmit_txlen_toNat hhi, State.transmit_txlen, State.appendCrc_txlen]
  have hpred : s.appendCrc.predLen = predictedLen fc count := by rw [State.predLen_eq (by omega), hadu]
  have hcount : s.appendCrc.charCount s.appendCrc.predLen = if s.ccFcMult then chars * fc.toNat else chars := by
    rw [hpred, State.charCount_eq (by omega), hadu]
    rfl
  obtain ⟨hpredlen, -, -, hcharcnt, -, hchardelay, -, hframedelay, -, hdelay, -⟩ :=
    timingRegistersHoldExactValues s.appendCrc (by omega) (by omega)
  refine ⟨?registers, ?txlen, ?adu, fun a h0 h1 => ?octets, hpredlen.trans hpred, hcharcnt.trans hcount,
    Prod.ext hchardelay hframedelay, hdelay⟩
  case registers =>
    apply State.ext <;> simp [hadu, RspCode.toOctet]
  case txlen => exact State.transmit_txlen_toNat hhi
  case adu => exact s.transmit_txFrame.trans hadu
  case octets => exact (State.read_appendCrc hbuf.tx hhi).trans (by simp [h0, h1])

/-- Settles O24: the stops, and the bound of item 1 of 10_state.md R55. -/
theorem assemblyStopsOutsideTheBuffer : Obligations.AssemblyStopsOutsideTheBuffer :=
  ⟨fun b _ => exec_txData_of_no_octet b, fun _ => exec_txSend_of_no_octet,
    fun _ hinv hs => Nat.not_lt.2 (hinv.assembleLen hs).2⟩

/-! ### Reads -/

/-- A read command adds a response that does not depend on the responses before it, and does nothing else. -/
theorem exec_read_only {i : Instr} (hi : i.mnemonic ∈ [.NOP, .CRC_READ, .READ, .READ_TX, .READ_RX]) (s : State) :
    ∃ r : Response, ∀ l : List Response, exec i { s with rspOut := l } = .next { s with rspOut := l ++ [r] } := by
  cases i with
  | nop => exact ⟨_, fun _ => rfl⟩
  | crcRead => exact ⟨⟨0x00#8, zext32 s.crc⟩, fun _ => rfl⟩
  | read r =>
    cases hr : RegName.ofNumber r with
    | none => exact ⟨_, fun _ => by rw [exec, execRead, hr]; rfl⟩
    | some name => exact ⟨⟨0x00#8, s.regval name⟩, fun _ => by rw [exec, execRead, hr]; rfl⟩
  | readTx k =>
    by_cases hk : s.txlen.toNat ≤ k.toNat
    · exact ⟨_, fun _ => exec_readTx_of_le hk⟩
    · exact ⟨⟨0x00#8, zext32 (s.txbuf.read k.toNat)⟩, fun _ => exec_readTx_of_lt (Nat.lt_of_not_le hk)⟩
  | readRx k =>
    by_cases hs : s.state = .rxwait
    · exact ⟨_, fun _ => exec_readRx_of_rxwait hs⟩
    by_cases hk : s.rxCount ≤ k.toNat
    · exact ⟨_, fun _ => exec_readRx_of_le hs hk⟩
    · exact ⟨⟨0x00#8, zext32 (s.rxbuf.read k.toNat)⟩, fun _ => exec_readRx_of_lt hs (Nat.lt_of_not_le hk)⟩
  | crcInit | crcUpdate | setStation | setBaud | setMode | txBegin | txData | txSend | close => simp [Instr.mnemonic] at hi

/-- Settles O25, by the one response that does not depend on the responses before it. -/
theorem readsChangeNothingAndRepeat : Obligations.ReadsChangeNothingAndRepeat := by
  intro i s hi
  obtain ⟨r, hr⟩ := exec_read_only hi s
  exact ⟨r, hr s.rspOut, hr (s.rspOut ++ [r])⟩

/-! ### WINDOW_CLOSE outside a window, and reads after RESET -/

/-- Settles O28: the step is `windowClose`, whose other branch is the stop. -/
theorem windowCloseNeedsAnOpenWindow : Obligations.WindowCloseNeedsAnOpenWindow := by
  intro s rest hi hs
  simp only [step, hi, runInput]
  exact if_neg hs

theorem exec_read_of_statusWord {s : State} {w : Word} (h : s.statusWord = w) :
    exec (.read 0x00#8) s = .next (s.respond .ok w) :=
  h ▸ exec_read_number s .STATUS

theorem statusWord_resetEvent (s : State) : (resetEvent s).statusWord = 0x00000000#32 := statusWordLayout.2

/-- Settles O32: the registers RESET leaves are what STATUS and CRC_READ answer, and no index is below a length of 0. -/
theorem readsAfterReset : Obligations.ReadsAfterReset := by
  intro s rest k hi
  refine ⟨_, step_reset hi, rfl, rfl, rfl, rfl, ?_, exec_crcRead _, exec_readTx_of_le (Nat.zero_le _),
    exec_readRx_of_le nofun (Nat.zero_le _)⟩
  exact exec_read_of_statusWord (statusWord_resetEvent _)

end Sys2Proof.Machine

/-! SUPPORT. What the response check records (41_frame_codec.md R140): the bounds of the length, the octets the CRC is of, and which
EXC goes with which RESULT (10_state.md R40). -/

namespace Sys2Proof.Machine.State

section
variable {s : State} {cls : FrameClass} {len : Nat}

theorem exc_of_classify_failed {res : Result} {exc : Octet} (h : s.classify = .failed res exc) :
    exc = if res = .noResponse then 0x0B#8 else 0x00#8 := by
  simp only [classify] at h
  split_ifs at h <;> cases h <;> rfl

/-- A frame has two octets at least, and no more than were received. -/
theorem bounds_of_classify_frame (h : s.classify = .frame cls len) : 2 ≤ len ∧ len ≤ s.rxCount := by
  simp only [classify, Config.bufSize, Config.exceptionFrameLen] at h
  simp only [rxCount, Config.bufSize]
  split_ifs at h <;> cases h <;> omega

/-- The verdict on a frame is an outcome other than NO_RESPONSE, and only a protocol exception has an octet to report. -/
theorem verdict_outcome (s : State) (cls : FrameClass) (len : Nat) :
    (s.verdict cls len).1 ≠ .none ∧ (s.verdict cls len).1 ≠ .noResponse ∧
      ((s.verdict cls len).1 ≠ .protocolException → (s.verdict cls len).2 = 0x00#8) := by
  rw [verdict_eq_ite]
  split_ifs
  case neg => cases cls <;> simp [accepted]
  all_goals simp

end

section
variable (s : State)

theorem checkResponse_len_le : s.checkResponse.len ≤ s.rxCount := by
  cases h : s.classify with
  | failed res exc => simp [checkResponse_of_failed h]
  | frame cls len =>
    rw [checkResponse_of_frame h]
    exact (bounds_of_classify_frame h).2

theorem checkResponse_rxcrc : s.checkResponse.rxcrc = crc16 (s.rxbuf.octets 0 (s.checkResponse.len - 2)) := by
  cases h : s.classify with
  | failed res exc => simp [checkResponse_of_failed h]
  | frame cls len => rw [checkResponse_of_frame h]

theorem checkResponse_res_ne_none : s.checkResponse.res ≠ .none := by
  cases h : s.classify with
  | failed res exc =>
    rw [checkResponse_of_failed h]
    obtain rfl | rfl := classify_eq_failed h <;> simp
  | frame cls len =>
    rw [checkResponse_of_frame h]
    exact (s.verdict_outcome cls len).1

theorem checkResponse_exc_of_noResponse (hr : s.checkResponse.res = .noResponse) : s.checkResponse.exc = 0x0B#8 := by
  cases h : s.classify with
  | failed res exc =>
    rw [checkResponse_of_failed h] at hr ⊢
    exact (exc_of_classify_failed h).trans (if_pos hr)
  | frame cls len =>
    rw [checkResponse_of_frame h] at hr
    exact absurd hr (s.verdict_outcome cls len).2.1

theorem checkResponse_exc_eq_zero (hr : s.checkResponse.res ≠ .noResponse) (hp : s.checkResponse.res ≠ .protocolException) :
    s.checkResponse.exc = 0x00#8 := by
  cases h : s.classify with
  | failed res exc =>
    rw [checkResponse_of_failed h] at hr ⊢
    exact (exc_of_classify_failed h).trans (if_neg hr)
  | frame cls len =>
    rw [checkResponse_of_frame h] at hp ⊢
    exact (s.verdict_outcome cls len).2.2 hp

/-- FRAMELEN holds the length of the check exactly. -/
theorem closeWindow_framelen_toNat : s.closeWindow.framelen.toNat = s.checkResponse.len :=
  toNat_ofNat_of_le (s.checkResponse_len_le.trans (Nat.min_le_right _ _)) (by decide)

end

end Sys2Proof.Machine.State

/-! SUPPORT. What every step keeps, by one induction over what a step can do: an invariant that speaks of neither the responses nor the
inputs is kept by every step if every effect of a command, LINE_RX, WINDOW_CLOSE and RESET keep it. -/

namespace Sys2Proof.Machine

/-- The obligations of an invariant, one for each way a step writes the state. -/
structure KeptByParts (P : State → Prop) : Prop where
  lists : ∀ (s : State) (responses : List Response) (pending : List Input), P s →
    P { s with rspOut := responses, inputs := pending }
  effect : ∀ (s u : State) (i : Instr) (code : RspCode), Effect s i code u → P s → P u
  lineRx : ∀ (s : State) (b : Octet), P s → P (lineRx b s)
  closeWindow : ∀ s : State, s.state = .rxwait → P s → P s.closeWindow
  reset : ∀ s : State, P s → P (resetEvent s)

theorem KeptByParts.step {P : State → Prop} (k : KeptByParts P) {s t : State} (hs : P s) (h : step s = .next t) : P t := by
  have htaken (rest : List Input) : P { s with inputs := rest } := k.lists s s.rspOut rest hs
  obtain ⟨-, rfl⟩ | ⟨w, rest, why, -, -, rfl⟩ | ⟨w, rest, i, -, -, he⟩ | ⟨b, rest, -, rfl⟩ | ⟨rest, -, hw, rfl⟩ |
    ⟨rest, -, rfl⟩ := step_cases h
  · exact hs
  · exact k.lists s _ rest hs
  · obtain ⟨code, data, u, e, -, rfl⟩ := exec_effect he
    exact k.lists u _ u.inputs (k.effect _ _ i code e (htaken rest))
  · exact k.lineRx _ b (htaken rest)
  · exact k.closeWindow _ hw (htaken rest)
  · exact k.reset _ (htaken rest)

/-! ### Canonical buffers -/

theorem buffersCanonical_kept : KeptByParts State.BuffersCanonical where
  lists _ _ _ h := ⟨h.tx, h.rx⟩
  effect s u i code e h := by
    cases e with
    | txBegin => exact ⟨Memory.wf_write (Memory.wf_write h.tx (by decide) _) (by decide) _, h.rx⟩
    | txData _ _ room => exact ⟨Memory.wf_write h.tx room _, h.rx⟩
    | txSend _ _ room =>
      exact ⟨by rw [State.transmit_txbuf]; exact State.wf_appendCrc h.tx room, by rw [State.transmit_rxbuf]; exact h.rx⟩
    | rejected | onlyAnswers => exact h
    | crcInit | crcUpdate | setStation | setBaud | setMode | txDataFull | close => exact ⟨h.tx, h.rx⟩
  lineRx s b h := by
    obtain ⟨-, hlen, hr⟩ | ⟨-, -, hr⟩ | ⟨-, hr⟩ := lineRx_cases b s <;> rw [hr]
    · exact ⟨h.tx, Memory.wf_write h.rx hlen b⟩
    · exact ⟨h.tx, h.rx⟩
    · exact h
  closeWindow _ _ h := ⟨h.tx, h.rx⟩
  reset _ _ := ⟨Memory.wf_nil, Memory.wf_nil⟩

/-- Settles O36: a write is inside its buffer, by the bounds each effect has. -/
theorem stepKeepsBuffersCanonical : Obligations.StepKeepsBuffersCanonical := fun _ _ => buffersCanonical_kept.step

end Sys2Proof.Machine

/-! SUPPORT. The invariants of the exchange (10_state.md R55), phase by phase. -/

namespace Sys2Proof.Machine

/-- TXBUF holds a whole ADU: a body of at least two octets, then its CRC, low octet first, which TXCRC keeps. -/
structure State.HoldsAdu (s : State) : Prop where
  len : 4 ≤ s.txlen.toNat ∧ s.txlen.toNat ≤ 256
  crc : s.txcrc = crc16 (s.txbuf.octets 0 (s.txlen.toNat - 2))
  lo : s.txbuf.read (s.txlen.toNat - 2) = crcLo s.txcrc
  hi : s.txbuf.read (s.txlen.toNat - 1) = crcHi s.txcrc

/-- Item 4 of 10_state.md R55. -/
def State.RxBounds (s : State) : Prop :=
  s.rxlen.toNat ≤ 257 ∧ s.framelen.toNat ≤ 256 ∧ s.framelen.toNat ≤ s.rxlen.toNat

namespace State.ExchangeInv

section
variable {s : State}

theorem rxBounds (h : s.ExchangeInv) : s.RxBounds := ⟨h.rxlenBound, h.framelenBound, h.framelenRxlen⟩

theorem holdsAdu (h : s.ExchangeInv) (hs : s.state = .rxwait) : s.HoldsAdu :=
  ⟨h.rxwaitLen hs, h.rxwaitCrc hs, h.rxwaitLo hs, h.rxwaitHi hs⟩

theorem of_idle (hs : s.state = .idle) (hrx : s.RxBounds) : s.ExchangeInv := by
  obtain ⟨hrxlen, hframelen, hle⟩ := hrx
  constructor
  case rxlenBound => exact hrxlen
  case framelenBound => exact hframelen
  case framelenRxlen => exact hle
  all_goals simp [hs]

theorem of_assemble (hs : s.state = .assemble) (hlen : 2 ≤ s.txlen.toNat ∧ s.txlen.toNat ≤ 254)
    (hcrc : s.txcrc = crc16 s.txFrame) (hrx : s.RxBounds) : s.ExchangeInv := by
  obtain ⟨hrxlen, hframelen, hle⟩ := hrx
  constructor
  case assembleLen => exact fun _ => hlen
  case assembleCrc => exact fun _ => hcrc
  case rxlenBound => exact hrxlen
  case framelenBound => exact hframelen
  case framelenRxlen => exact hle
  all_goals simp [hs]

theorem of_rxwait (hs : s.state = .rxwait) (hopen : s.closed = false) (hresult : s.result = .none) (hadu : s.HoldsAdu)
    (hrx : s.RxBounds) : s.ExchangeInv := by
  obtain ⟨hrxlen, hframelen, hle⟩ := hrx
  constructor
  case rxwaitLen => exact fun _ => hadu.len
  case rxwaitOpen => exact fun _ => hopen
  case rxwaitResult => exact fun _ => hresult
  case rxwaitCrc => exact fun _ => hadu.crc
  case rxwaitLo => exact fun _ => hadu.lo
  case rxwaitHi => exact fun _ => hadu.hi
  case rxlenBound => exact hrxlen
  case framelenBound => exact hframelen
  case framelenRxlen => exact hle
  all_goals simp [hs, hopen]

end

end State.ExchangeInv

/-- An accepted TX_SEND leaves the ADU of the frame in TXBUF. -/
theorem State.transmit_holdsAdu {s : State} (hbuf : s.txbuf.wf = true) (hlen : 2 ≤ s.txlen.toNat ∧ s.txlen.toNat ≤ 254)
    (hcrc : s.txcrc = crc16 s.txFrame) : s.transmit.HoldsAdu := by
  have hlen' := State.transmit_txlen_toNat hlen.2
  have hread (a : Nat) := State.read_appendCrc hbuf (a := a) hlen.2
  have hbody : s.appendCrc.txbuf.octets 0 s.txlen.toNat = s.txFrame :=
    Memory.octets_congr fun a ha => by rw [hread, if_neg (by omega), if_neg (by omega)]
  refine ⟨by omega, ?_, ?_, ?_⟩
  · rw [hlen', Nat.add_sub_cancel, State.transmit_txbuf, hbody, State.transmit_txcrc, hcrc]
  · rw [hlen', Nat.add_sub_cancel, State.transmit_txbuf, hread, State.transmit_txcrc]
    simp
  · rw [hlen', State.transmit_txbuf, hread, State.transmit_txcrc]
    simp

theorem State.transmit_rxBounds (s : State) : s.transmit.RxBounds := by
  simp [RxBounds]

/-- LINE_RX moves RXLEN up, to 257 at most. -/
theorem lineRx_rxlen_toNat {s : State} (b : Octet) (hs : s.state = .rxwait) (hlen : s.rxlen.toNat ≤ 257) :
    (lineRx b s).rxlen.toNat = min (s.rxlen.toNat + 1) 257 := by
  obtain ⟨-, hroom, h⟩ | ⟨-, hfull, h⟩ | ⟨hs', -⟩ := lineRx_cases b s
  · have hfits : s.rxlen.toNat + 1 < 2 ^ 9 := by omega
    rw [h, min_eq_left (by omega)]
    exact BitVec.toNat_add_of_lt hfits
  · rw [h, min_eq_right (by omega)]
    rfl
  · exact absurd hs hs'

theorem Effect.exchangeInv {s u : State} {i : Instr} {code : RspCode} (e : Effect s i code u) (hbuf : s.BuffersCanonical)
    (h : s.ExchangeInv) : u.ExchangeInv := by
  cases e with
  | rejected | onlyAnswers => exact h
  | crcInit | crcUpdate | setStation | setBaud | setMode => exact { h with }
  | txBegin fc => exact .of_assemble rfl (by simp) (by rw [State.txFrame_beginFrame hbuf.tx]; rfl) h.rxBounds
  | txData b hs room full =>
    have hlen := h.assembleLen hs
    have hlen' := s.appendData_txlen_toNat b room
    refine .of_assemble hs (by omega) ?_ h.rxBounds
    rw [State.txFrame_appendData hbuf.tx b room, crc16_snoc, State.appendData_txcrc, h.assembleCrc hs]
    rfl
  | txDataFull => exact .of_idle rfl h.rxBounds
  | txSend hs hopen room =>
    exact .of_rxwait s.transmit_state (s.transmit_closed.trans hopen) s.transmit_result
      (State.transmit_holdsAdu hbuf.tx (h.assembleLen hs) (h.assembleCrc hs)) s.transmit_rxBounds
  | close hs hopen => exact { h with rxwaitOpen := fun hw => absurd hw hs, closedNoWindow := fun _ => hs }

/-- LINE_RX writes RXBUF and RXLEN only. -/
theorem lineRx_eq (b : Octet) (s : State) :
    lineRx b s = { s with rxbuf := (lineRx b s).rxbuf, rxlen := (lineRx b s).rxlen } := by
  obtain ⟨-, -, h⟩ | ⟨-, -, h⟩ | ⟨-, h⟩ := lineRx_cases b s <;> rw [h]
  rfl

theorem lineRx_exchangeInv {s : State} (b : Octet) (h : s.ExchangeInv) : (lineRx b s).ExchangeInv := by
  obtain ⟨hrxlen, hframelen, hle⟩ := h.rxBounds
  by_cases hs : s.state = .rxwait
  · have hnext := lineRx_rxlen_toNat b hs hrxlen
    have hbound : (lineRx b s).rxlen.toNat ≤ 257 := by omega
    have hgrows : s.framelen.toNat ≤ (lineRx b s).rxlen.toNat := by omega
    rw [lineRx_eq]
    exact { h with rxlenBound := hbound, framelenRxlen := hgrows }
  · rw [lineRx_of_not_rxwait b hs]
    exact h

/-- WINDOW_CLOSE records a length within the octets received. -/
theorem closeWindow_exchangeInv {s : State} (h : s.ExchangeInv) : s.closeWindow.ExchangeInv := by
  have hlen := s.checkResponse_len_le
  have hrxlen := h.rxlenBound
  refine .of_idle rfl ⟨hrxlen, ?_, ?_⟩ <;> rw [State.closeWindow_framelen_toNat]
  · exact hlen.trans (Nat.min_le_right _ _)
  · exact hlen.trans (Nat.min_le_left _ _)

theorem resetEvent_exchangeInv (s : State) : (resetEvent s).ExchangeInv := .of_idle rfl (by simp [State.RxBounds])

theorem exchangeInv_kept : KeptByParts fun s => s.BuffersCanonical ∧ s.ExchangeInv where
  lists s l p h := ⟨buffersCanonical_kept.lists s l p h.1, { h.2 with }⟩
  effect s u i code e h := ⟨buffersCanonical_kept.effect s u i code e h.1, e.exchangeInv h.1 h.2⟩
  lineRx s b h := ⟨buffersCanonical_kept.lineRx s b h.1, lineRx_exchangeInv b h.2⟩
  closeWindow s hs h := ⟨buffersCanonical_kept.closeWindow s hs h.1, closeWindow_exchangeInv h.2⟩
  reset s h := ⟨buffersCanonical_kept.reset s h.1, resetEvent_exchangeInv s⟩

/-- Settles O37, by the phase each part of a step leaves. -/
theorem stepKeepsExchangeInvariants : Obligations.StepKeepsExchangeInvariants :=
  fun _ _ hbuf hinv h => (exchangeInv_kept.step ⟨hbuf, hinv⟩ h).2

end Sys2Proof.Machine

/-! SUPPORT. The record of the last exchange (10_state.md R40, R42, R43, R48; 70_reset_and_hazards.md R250), the timing registers
(R44), and the whole invariant. -/

namespace Sys2Proof.Machine

/-! ### The record of the last exchange -/

theorem Effect.recordInv {s u : State} {i : Instr} {code : RspCode} (e : Effect s i code u) (h : s.RecordInv) :
    u.RecordInv := by
  cases e with
  | rejected | onlyAnswers => exact h
  | crcInit | crcUpdate | setStation | setBaud | setMode | close => exact { h with }
  | txBegin fc => exact { h with idleLen := nofun, idleAborted := nofun, idleSent := nofun, windowClear := nofun }
  | txData b hs =>
    have hidle {p : Prop} (hi : s.state = .idle) : p := nomatch hs.symm.trans hi
    exact { h with idleLen := hidle, idleAborted := hidle, idleSent := hidle }
  | txDataFull =>
    exact { h with idleLen := fun _ => .inl rfl, idleAborted := fun _ _ => rfl, idleSent := fun _ => nofun,
                   windowClear := nofun }
  | txSend =>
    constructor
    case rxcrcOfFrame => simp
    all_goals simp

theorem lineRx_recordInv {s : State} (b : Octet) (h : s.RecordInv) : (lineRx b s).RecordInv := by
  by_cases hs : s.state = .rxwait
  · obtain ⟨hframelen, hrxcrc, -⟩ := h.windowClear hs
    rw [lineRx_eq]
    exact { h with rxcrcOfFrame := by simp [hframelen, hrxcrc] }
  · rw [lineRx_of_not_rxwait b hs]
    exact h

/-- WINDOW_CLOSE keeps the request in TXBUF and records the check. -/
theorem closeWindow_recordInv {s : State} (hadu : s.HoldsAdu) : s.closeWindow.RecordInv where
  idleLen _ := .inr hadu.len
  idleAborted _ h0 := by
    have hlen := hadu.len.1
    have : s.txlen.toNat = 0 := h0
    omega
  idleSent _ _ := ⟨hadu.crc, hadu.lo, hadu.hi⟩
  rxcrcOfFrame := by
    rw [State.closeWindow_framelen_toNat]
    exact s.checkResponse_rxcrc
  windowClear := nofun
  excNoResponse := s.checkResponse_exc_of_noResponse
  excOtherwise := s.checkResponse_exc_eq_zero

theorem resetEvent_recordInv (s : State) : (resetEvent s).RecordInv where
  idleLen _ := .inl rfl
  idleAborted _ _ := rfl
  idleSent _ := nofun
  rxcrcOfFrame := rfl
  windowClear := nofun
  excNoResponse := nofun
  excOtherwise _ _ := rfl

/-! ### The timing registers -/

theorem Effect.timingInv {s u : State} {i : Instr} {code : RspCode} (e : Effect s i code u)
    (hlen : s.state = .assemble → 2 ≤ s.txlen.toNat) (h : s.TimingInv) : u.TimingInv := by
  cases e with
  | rejected | onlyAnswers => exact h
  | txSend hs _ room =>
    have hlen := hlen hs
    have hadu := State.transmit_txlen_toNat room
    rw [State.transmit_txlen, ← State.appendCrc_txlen] at hadu
    obtain ⟨hpred, hpredlo, hpredhi, hcount, hcounthi, -, hchar, -, hframe, hdelay, -⟩ :=
      timingRegistersHoldExactValues s.appendCrc (by omega) (by omega)
    constructor
    · rw [State.transmit_predlen, State.transmit_charcnt, State.transmit_chardelay, State.transmit_framedelay]
      exact .inr ⟨hpred ▸ hpredlo, hpred ▸ hpredhi, hcount ▸ hcounthi, hchar, hframe⟩
    · rw [State.transmit_charcnt, State.transmit_chardelay, State.transmit_framedelay, State.transmit_delay]
      exact hdelay
  | crcInit | crcUpdate | setStation | setBaud | setMode | txBegin | txData | txDataFull | close => exact { h with }

theorem lineRx_timingInv {s : State} (b : Octet) (h : s.TimingInv) : (lineRx b s).TimingInv := by
  rw [lineRx_eq]
  exact { h with }

/-! ### The whole invariant -/

theorem resetEvent_inv (s : State) : (resetEvent s).Inv where
  buffers := ⟨Memory.wf_nil, Memory.wf_nil⟩
  exchange := resetEvent_exchangeInv s
  record := resetEvent_recordInv s
  timing := ⟨.inl ⟨rfl, rfl, rfl, rfl⟩, rfl⟩

theorem State.Inv.with_lists {s : State} (h : s.Inv) (responses : List Response) (pending : List Input) :
    State.Inv { s with rspOut := responses, inputs := pending } where
  buffers := { h.buffers with }
  exchange := { h.exchange with }
  record := { h.record with }
  timing := { h.timing with }

theorem inv_kept : KeptByParts State.Inv where
  lists _ l p h := h.with_lists l p
  effect s u i code e h :=
    { buffers := buffersCanonical_kept.effect s u i code e h.buffers
      exchange := e.exchangeInv h.buffers h.exchange
      record := e.recordInv h.record
      timing := e.timingInv (fun hs => (h.exchange.assembleLen hs).1) h.timing }
  lineRx s b h :=
    { buffers := buffersCanonical_kept.lineRx s b h.buffers
      exchange := lineRx_exchangeInv b h.exchange
      record := lineRx_recordInv b h.record
      timing := lineRx_timingInv b h.timing }
  closeWindow s hs h :=
    { buffers := buffersCanonical_kept.closeWindow s hs h.buffers
      exchange := closeWindow_exchangeInv h.exchange
      record := closeWindow_recordInv (h.exchange.holdsAdu hs)
      timing := { h.timing with } }
  reset s _ := resetEvent_inv s

/-- Settles O38, part by part of the invariant. -/
theorem stepKeepsTheInvariant : Obligations.StepKeepsTheInvariant := fun _ _ => inv_kept.step

/-- Settles O39: the power-on state is one RESET leaves. -/
theorem resetSatisfiesTheInvariant : Obligations.ResetSatisfiesTheInvariant := resetEvent_inv State.reset

end Sys2Proof.Machine

/-! SUPPORT. Two states that differ at most in the unspecified octets of their buffers (93_implementation_defined.md U1, U2): each
operation keeps them so, and every branch is taken alike, since its condition is about registers or defined octets. -/

namespace Sys2Proof.Machine

namespace State

/-! ### The receive buffer while a window fills it -/

theorem rxFrame_lineRx_of_room {s : State} (hbuf : s.rxbuf.wf = true) (b : Octet) (hs : s.state = .rxwait)
    (hlen : s.rxlen.toNat < 256) : (lineRx b s).rxFrame = s.rxFrame ++ [b] := by
  have hfits : s.rxlen.toNat + 1 < 2 ^ 9 := by omega
  have hnext : (s.rxlen + 1#9).toNat = s.rxlen.toNat + 1 := BitVec.toNat_add_of_lt hfits
  have hcount : s.rxCount = s.rxlen.toNat := min_eq_left hlen.le
  have hcount' : (lineRx b s).rxCount = s.rxlen.toNat + 1 := by
    rw [lineRx_of_room b hs hlen, rxCount, hnext]
    exact min_eq_left hlen
  rw [rxFrame, hcount', rxFrame, hcount, lineRx_of_room b hs hlen]
  exact Memory.octets_write_end hbuf _ b

theorem rxFrame_lineRx_of_full {s : State} (b : Octet) (hs : s.state = .rxwait) (hlen : 256 ≤ s.rxlen.toNat) :
    (lineRx b s).rxFrame = s.rxFrame := by
  have hcount : s.rxCount = 256 := min_eq_right hlen
  rw [lineRx_of_full b hs hlen, rxFrame, rxFrame, hcount]
  rfl

theorem SameRegisters.of_eq {s t : State} {tx rx : Memory} (h : t = { s with txbuf := tx, rxbuf := rx }) :
    s.SameRegisters t := by
  subst h
  rfl

namespace SameDefined

section
variable {s t : State} (h : s.SameDefined t)
include h

/-- Whatever is read of the state, the other state gives with its own buffers put in place. -/
theorem map_eq {α : Type} (f : State → α) : f t = f { s with txbuf := t.txbuf, rxbuf := t.rxbuf } :=
  congrArg f (show t = _ from h.registers)

theorem state_eq : t.state = s.state := h.map_eq State.state
theorem closed_eq : t.closed = s.closed := h.map_eq State.closed
theorem txlen_eq : t.txlen = s.txlen := h.map_eq State.txlen
theorem rxlen_eq : t.rxlen = s.rxlen := h.map_eq State.rxlen
theorem inputs_eq : t.inputs = s.inputs := h.map_eq State.inputs
theorem rxCount_eq : t.rxCount = s.rxCount := by rw [rxCount, rxCount, h.rxlen_eq]

theorem read_txbuf {a : Nat} (ha : a < s.txlen.toNat) : t.txbuf.read a = s.txbuf.read a := by
  rw [read_txbuf_eq ha, read_txbuf_eq (h.txlen_eq ▸ ha), h.tx]

theorem octets_rxbuf {a : Nat} (ha : a ≤ s.rxCount) : t.rxbuf.octets 0 a = s.rxbuf.octets 0 a := by
  rw [← Memory.take_octets s.rxbuf ha, ← Memory.take_octets t.rxbuf (h.rxCount_eq ▸ ha)]
  exact congrArg (List.take a) h.rx.symm

theorem read_rxbuf {a : Nat} (ha : a < s.rxCount) : t.rxbuf.read a = s.rxbuf.read a :=
  Memory.read_of_octets_eq (h.octets_rxbuf le_rfl) ha

theorem regval_eq (name : RegName) : t.regval name = s.regval name := by
  rw [h.registers]
  cases name <;> rfl

theorem observe_eq : s.observe = t.observe := by
  have hregisters : allRegisters.map t.regval = allRegisters.map s.regval := List.map_congr_left fun r _ => h.regval_eq r
  rw [observe, observe, h.tx, h.rx, hregisters, show t.rspOut = s.rspOut from h.map_eq State.rspOut,
    show t.crc = s.crc from h.map_eq State.crc, show t.lineOut = s.lineOut from h.map_eq State.lineOut]

/-- An operation on the registers alone keeps the states alike: it commutes with putting other buffers in place, and leaves the
defined octets. -/
theorem map (f : State → State) (hbuf : ∀ u tx rx, f { u with txbuf := tx, rxbuf := rx } = { f u with txbuf := tx, rxbuf := rx })
    (hframes : ∀ u, (f u).txFrame = u.txFrame ∧ (f u).rxFrame = u.rxFrame) : (f s).SameDefined (f t) := by
  have hregisters : f t = { f s with txbuf := t.txbuf, rxbuf := t.rxbuf } := (h.map_eq f).trans (hbuf s t.txbuf t.rxbuf)
  refine ⟨.of_eq hregisters, ?_, ?_⟩
  · rw [(hframes s).1, (hframes t).1, h.tx]
  · rw [(hframes s).2, (hframes t).2, h.rx]

theorem respond (code : RspCode) (data : Word) : (s.respond code data).SameDefined (t.respond code data) :=
  h.map (State.respond · code data) (fun _ _ _ => rfl) fun _ => ⟨rfl, rfl⟩

theorem with_inputs (l : List Input) : State.SameDefined { s with inputs := l } { t with inputs := l } :=
  h.map (fun u => { u with inputs := l }) (fun _ _ _ => rfl) fun _ => ⟨rfl, rfl⟩

/-! ### The frame and its transmission -/

theorem discardFrame : s.discardFrame.SameDefined t.discardFrame :=
  ⟨.of_eq (h.map_eq State.discardFrame), rfl, h.rx⟩

theorem beginFrame (hs : s.txbuf.wf = true) (ht : t.txbuf.wf = true) (fc : Octet) :
    (s.beginFrame fc).SameDefined (t.beginFrame fc) := by
  refine ⟨.of_eq (h.map_eq (State.beginFrame · fc)), ?_, h.rx⟩
  rw [txFrame_beginFrame hs, txFrame_beginFrame ht, show t.station = s.station from h.map_eq State.station]

theorem appendData (hs : s.txbuf.wf = true) (ht : t.txbuf.wf = true) (hlen : s.txlen.toNat < 256) (b : Octet) :
    (s.appendData b).SameDefined (t.appendData b) := by
  refine ⟨.of_eq (h.map_eq (State.appendData · b)), ?_, h.rx⟩
  rw [txFrame_appendData hs b hlen, txFrame_appendData ht b (h.txlen_eq ▸ hlen), h.tx]

theorem appendCrc (hs : s.txbuf.wf = true) (ht : t.txbuf.wf = true) (hlen : s.txlen.toNat ≤ 254) :
    s.appendCrc.SameDefined t.appendCrc := by
  refine ⟨.of_eq (h.map_eq State.appendCrc), ?_, h.rx⟩
  rw [txFrame_appendCrc hs hlen, txFrame_appendCrc ht (h.txlen_eq ▸ hlen), h.tx,
    show t.txcrc = s.txcrc from h.map_eq State.txcrc]

/-- The timing functions read the frame, not the octets beyond it. -/
theorem timingUpdate (hlen : 2 ≤ s.txlen.toNat) : s.timingUpdate.SameDefined t.timingUpdate := by
  have hlen' : 2 ≤ t.txlen.toNat := h.txlen_eq ▸ hlen
  have hpred : t.predLen = s.predLen := by rw [predLen_eq hlen, predLen_eq hlen', h.tx]
  have hcount : t.charCount t.predLen = s.charCount s.predLen := by
    rw [hpred, charCount_eq hlen, charCount_eq hlen', h.tx, show t.ccFcMult = s.ccFcMult from h.map_eq State.ccFcMult]
  have htiming : t.timingUpdate = { s.timingUpdate with txbuf := t.txbuf, rxbuf := t.rxbuf } := by
    rw [State.timingUpdate, hcount, hpred, h.map_eq State.baud]
    exact h.map_eq fun u => { u with
      baud := s.baud, predlen := s.timingUpdate.predlen, charcnt := s.timingUpdate.charcnt,
      chardelay := s.timingUpdate.chardelay, framedelay := s.timingUpdate.framedelay,
      delay := s.timingUpdate.delay }
  exact ⟨.of_eq htiming, h.tx, h.rx⟩

theorem emit : (s.emit s.txFrame).SameDefined (t.emit t.txFrame) := by
  rw [← h.tx]
  exact ⟨.of_eq (h.map_eq (State.emit · s.txFrame)), h.tx, h.rx⟩

theorem openWindow : s.openWindow.SameDefined t.openWindow := ⟨.of_eq (h.map_eq State.openWindow), h.tx, rfl⟩

theorem transmit (hs : s.txbuf.wf = true) (ht : t.txbuf.wf = true) (hlo : 2 ≤ s.txlen.toNat) (hhi : s.txlen.toNat ≤ 254) :
    s.transmit.SameDefined t.transmit := by
  have hlen := transmit_txlen_toNat hhi
  rw [transmit_txlen, ← appendCrc_txlen] at hlen
  exact ((h.appendCrc hs ht hhi).timingUpdate (by omega)).emit.openWindow

end

end SameDefined

end State

end Sys2Proof.Machine

/-! SUPPORT. Steps of two states that differ at most in the unspecified octets: the check of a response reads defined octets only
(41_frame_codec.md R140), and so does every command and event, so the steps end alike. -/

namespace Sys2Proof.Machine

namespace State.SameDefined

section
variable {s t : State} (h : s.SameDefined t)
include h

/-! ### The check of a response to a request of two octets at least -/

theorem classify_eq (hlen : 2 ≤ s.txlen.toNat) : t.classify = s.classify := by
  simp only [classify, h.rxlen_eq]
  refine ite_congr rfl (fun _ => rfl) fun _ => ite_congr rfl (fun _ => rfl) fun hn => ite_congr rfl (fun _ => rfl) fun h2 => ?_
  have hcount : 1 < s.rxCount := lt_min (by omega) (by decide)
  rw [h.read_rxbuf hcount, h.read_txbuf hlen]

theorem verdict_eq (hlen : 2 ≤ s.txlen.toNat) (cls : FrameClass) {len : Nat} (h2 : 2 ≤ len) (hle : len ≤ s.rxCount) :
    t.verdict cls len = s.verdict cls len := by
  have haccepted : t.accepted cls len = s.accepted cls len := by
    cases cls with
    | echo => rfl
    | excf =>
      simp only [accepted]
      split
      · rw [h.read_rxbuf (by omega)]
      · rfl
  rw [verdict_eq_ite, verdict_eq_ite, h.read_rxbuf (by omega), h.read_txbuf (by omega), h.octets_rxbuf hle,
    h.octets_rxbuf (by omega), haccepted]

theorem checkResponse_eq (hlen : 2 ≤ s.txlen.toNat) : t.checkResponse = s.checkResponse := by
  have hclass := h.classify_eq hlen
  cases hc : s.classify with
  | failed res exc => rw [checkResponse_of_failed hc, checkResponse_of_failed (hclass.trans hc)]
  | frame cls len =>
    obtain ⟨h2, hle⟩ := bounds_of_classify_frame hc
    rw [checkResponse_of_frame hc, checkResponse_of_frame (hclass.trans hc), h.verdict_eq hlen cls h2 hle,
      h.octets_rxbuf (by omega)]

theorem closeWindow (hlen : 2 ≤ s.txlen.toNat) : s.closeWindow.SameDefined t.closeWindow := by
  rw [State.closeWindow, State.closeWindow, h.checkResponse_eq hlen]
  exact h.map (fun u => { u with
    result := s.checkResponse.res, exc := s.checkResponse.exc, framelen := BitVec.ofNat 9 s.checkResponse.len,
    rxcrc := s.checkResponse.rxcrc, state := .idle }) (fun _ _ _ => rfl) fun _ => ⟨rfl, rfl⟩

/-! ### The other events -/

theorem lineRx (hs : s.rxbuf.wf = true) (ht : t.rxbuf.wf = true) (b : Octet) :
    (lineRx b s).SameDefined (lineRx b t) := by
  by_cases hw : s.state = .rxwait
  · have hw' : t.state = .rxwait := h.state_eq.trans hw
    by_cases hroom : s.rxlen.toNat < 256
    · have hroom' : t.rxlen.toNat < 256 := h.rxlen_eq ▸ hroom
      have hrx : (Machine.lineRx b s).rxFrame = (Machine.lineRx b t).rxFrame := by
        rw [rxFrame_lineRx_of_room hs b hw hroom, rxFrame_lineRx_of_room ht b hw' hroom', h.rx]
      rw [lineRx_of_room b hw hroom, lineRx_of_room b hw' hroom'] at hrx ⊢
      exact ⟨.of_eq (h.map_eq fun u => { u.storeRx u.rxlen.toNat b with rxlen := u.rxlen + 1#9 }), h.tx, hrx⟩
    · have hfull : 256 ≤ s.rxlen.toNat := Nat.le_of_not_lt hroom
      have hfull' : 256 ≤ t.rxlen.toNat := h.rxlen_eq ▸ hfull
      have hrx : (Machine.lineRx b s).rxFrame = (Machine.lineRx b t).rxFrame := by
        rw [rxFrame_lineRx_of_full b hw hfull, rxFrame_lineRx_of_full b hw' hfull', h.rx]
      rw [lineRx_of_full b hw hfull, lineRx_of_full b hw' hfull'] at hrx ⊢
      exact ⟨.of_eq (h.map_eq fun u => { u with rxlen := 257#9 }), h.tx, hrx⟩
  · rw [lineRx_of_not_rxwait b hw, lineRx_of_not_rxwait b (h.state_eq.symm ▸ hw)]
    exact h

theorem reset : (resetEvent s).SameDefined (resetEvent t) := ⟨.of_eq (h.map_eq resetEvent), rfl, rfl⟩

end

end State.SameDefined

/-- Two outcomes alike: the next states differ at most in unspecified octets, or the stop is the same. -/
inductive Alike : Outcome → Outcome → Prop where
  | next {s t : State} (h : s.SameDefined t) : Alike (.next s) (.next t)
  | fault (f : Fault) : Alike (.fault f) (.fault f)

/-- A branch taken alike. -/
theorem Alike.ite {p q : Prop} [Decidable p] [Decidable q] {a b a' b' : Outcome} (hpq : q ↔ p) (hp : p → Alike a a')
    (hn : ¬ p → Alike b b') : Alike (if p then a else b) (if q then a' else b') := by
  by_cases h : p
  · rw [if_pos h, if_pos (hpq.2 h)]
    exact hp h
  · rw [if_neg h, if_neg (mt hpq.1 h)]
    exact hn h

section
variable {s t : State} (h : s.SameDefined t)
include h

theorem exec_alike (hs : s.BuffersCanonical) (ht : t.BuffersCanonical) (hlen : s.state = .assemble → 2 ≤ s.txlen.toNat)
    (i : Instr) : Alike (exec i s) (exec i t) := by
  have hreject (code : RspCode) : Alike (.next (s.reject code)) (.next (t.reject code)) := .next (h.respond code 0#32)
  have hstate (p : Phase) : t.state = p ↔ s.state = p := by rw [h.state_eq]
  cases i with
  | nop => exact .next (h.respond _ _)
  | crcInit => exact .next (h.map (fun u => { u with crc := 0xFFFF#16 }.respond .ok 0#32) (fun _ _ _ => rfl) fun _ => ⟨rfl, rfl⟩)
  | crcUpdate b =>
    exact .next (h.map (fun u => { u with crc := crc16Step u.crc b }.respond .ok 0#32) (fun _ _ _ => rfl) fun _ => ⟨rfl, rfl⟩)
  | crcRead => exact .next (h.map (fun u => u.respond .ok (zext32 u.crc)) (fun _ _ _ => rfl) fun _ => ⟨rfl, rfl⟩)
  | setStation a =>
    exact .next (h.map (fun u => { u with station := a }.respond .ok 0#32) (fun _ _ _ => rfl) fun _ => ⟨rfl, rfl⟩)
  | setBaud w => exact .next (h.map (fun u => { u with baud := w }.respond .ok 0#32) (fun _ _ _ => rfl) fun _ => ⟨rfl, rfl⟩)
  | setMode m =>
    exact .next (h.map (fun u => { u with ccFcMult := m }.respond .ok 0#32) (fun _ _ _ => rfl) fun _ => ⟨rfl, rfl⟩)
  | txBegin fc => exact .ite (hstate _) (fun _ => hreject _) fun _ => .next ((h.beginFrame hs.tx ht.tx fc).respond _ _)
  | txData b =>
    refine .ite (not_congr (hstate _)) (fun _ => hreject _) fun _ => .ite (by rw [h.txlen_eq])
      (fun _ => .next (h.discardFrame.respond _ _)) fun _ => .ite (by rw [h.txlen_eq]) (fun _ => .fault _) fun hroom => ?_
    exact .next ((h.appendData hs.tx ht.tx (Nat.lt_of_not_le hroom) b).respond _ _)
  | txSend =>
    refine .ite (not_congr (hstate _)) (fun _ => hreject _) fun ha => .ite (by rw [h.closed_eq]) (fun _ => hreject _)
      fun _ => .ite (by rw [h.txlen_eq]) (fun _ => .fault _) fun hroom => ?_
    have hroom : s.txlen.toNat ≤ 254 := by
      simp only [Config.bufSize] at hroom
      omega
    exact .next ((h.transmit hs.tx ht.tx (hlen (not_not.1 ha)) hroom).respond _ _)
  | close =>
    refine .ite (by rw [h.closed_eq]) (fun _ => hreject _) fun _ => .ite (hstate _) (fun _ => hreject _) fun _ => ?_
    exact .next (h.map (fun u => { u with closed := true }.respond .ok 0#32) (fun _ _ _ => rfl) fun _ => ⟨rfl, rfl⟩)
  | read r =>
    simp only [exec, execRead]
    split
    · next name _ => rw [h.regval_eq name]; exact .next (h.respond _ _)
    · exact hreject _
  | readTx k =>
    refine .ite (by rw [h.txlen_eq]) (fun _ => hreject _) fun hk => ?_
    have hread : t.txbuf.read k.toNat = s.txbuf.read k.toNat := h.read_txbuf (Nat.lt_of_not_le hk)
    rw [bufIndex, hread]
    exact .next (h.respond _ _)
  | readRx k =>
    refine .ite (hstate _) (fun _ => hreject _) fun _ => .ite (by rw [h.rxCount_eq]) (fun _ => hreject _) fun hk => ?_
    have hread : t.rxbuf.read k.toNat = s.rxbuf.read k.toNat := h.read_rxbuf (Nat.lt_of_not_le hk)
    rw [bufIndex, hread]
    exact .next (h.respond _ _)

theorem step_alike (hs : s.Inv) (ht : t.BuffersCanonical) : Alike (step s) (step t) := by
  cases hi : s.inputs with
  | nil =>
    rw [step_of_no_input hi, step_of_no_input (h.inputs_eq.trans hi)]
    exact .next h
  | cons i rest =>
    have hi' : t.inputs = i :: rest := h.inputs_eq.trans hi
    have htaken := h.with_inputs rest
    have hs' := hs.with_lists s.rspOut rest
    have ht' : State.BuffersCanonical { t with inputs := rest } := ⟨ht.tx, ht.rx⟩
    cases i with
    | command w =>
      cases hd : decode w with
      | error why =>
        rw [step_of_decode_error hi hd, step_of_decode_error hi' hd]
        exact .next (htaken.respond _ _)
      | ok k =>
        rw [step_of_decode_ok hi hd, step_of_decode_ok hi' hd]
        exact exec_alike htaken hs'.buffers ht' (fun ha => (hs.exchange.assembleLen ha).1) k
    | lineRx b =>
      rw [step_lineRx hi, step_lineRx hi']
      exact .next (htaken.lineRx hs'.buffers.rx ht'.rx b)
    | windowClose =>
      simp only [step, hi, hi', runInput]
      refine .ite (by rw [h.state_eq]) (fun hw => .next (htaken.closeWindow ?_)) fun _ => .fault _
      have hlen : 4 ≤ s.txlen.toNat := (hs.exchange.rxwaitLen hw).1
      exact hlen.trans' (by decide)
    | reset =>
      rw [step_reset hi, step_reset hi']
      exact .next htaken.reset

end

/-- Settles O48: the steps end alike, and states that differ at most in unspecified octets have one observation. -/
theorem unspecifiedOctetsAreUnobservable : Obligations.UnspecifiedOctetsAreUnobservable := by
  intro s t hs ht h
  have halike := step_alike h hs ht
  generalize step t = o at halike ⊢
  refine ⟨fun s' hs' => ?_, fun f hf => ?_⟩
  · rw [hs'] at halike
    obtain ⟨h'⟩ := halike
    exact ⟨_, rfl, h', h'.observe_eq⟩
  · rw [hf] at halike
    cases halike
    rfl

end Sys2Proof.Machine

/-! SUPPORT. Who writes which register (10_state.md R32), effect by effect and event by event. -/

namespace Sys2Proof.Machine

theorem Reg.same_refl (r : Reg) (s : State) : r.same s s := by cases r <;> simp [Reg.same]

/-- The list of responses and the pending inputs are no registers. -/
theorem Reg.same_of_lists {r : Reg} {s t : State} (responses : List Response) (pending taken : List Input)
    (h : r.same { s with inputs := taken } t) : r.same s { t with rspOut := responses, inputs := pending } := by
  cases r <;> exact h

theorem Effect.same {s u : State} {i : Instr} {code : RspCode} (e : Effect s i code u) {r : Reg}
    (hr : i.mnemonic ∉ r.writers) : r.same s u := by
  cases e with
  | rejected | onlyAnswers => exact r.same_refl s
  | crcInit | crcUpdate | setStation | setBaud | setMode | txBegin | txData | txDataFull | txSend | close =>
    cases r <;> simp [Reg.writers, Instr.mnemonic] at hr <;> simp [Reg.same]

theorem lineRx_same {r : Reg} (b : Octet) (s : State) (hr : r.writtenByLineRx = false) : r.same s (lineRx b s) := by
  rw [lineRx_eq]
  cases r <;> simp [Reg.writtenByLineRx] at hr <;> simp [Reg.same]

theorem closeWindow_same {r : Reg} (s : State) (hr : r.writtenByWindowClose = false) : r.same s s.closeWindow := by
  cases r <;> simp [Reg.writtenByWindowClose] at hr <;> simp [Reg.same]

/-- Settles O41: a command by its effect, an event by the registers it writes. -/
theorem registersChangeOnlyByTheirWriters : Obligations.RegistersChangeOnlyByTheirWriters := by
  intro s t i rest hi h r hr
  obtain ⟨hs, -⟩ | ⟨w, rest', why, hs, -, rfl⟩ | ⟨w, rest', k, hs, hd, he⟩ | ⟨b, rest', hs, rfl⟩ | ⟨rest', hs, -, rfl⟩ |
    ⟨rest', hs, rfl⟩ := step_cases h <;> rw [hi] at hs <;> cases hs
  next => exact Reg.same_of_lists _ _ rest (r.same_refl _) -- an illegal word
  next => -- a command
    obtain ⟨code, data, u, e, -, rfl⟩ := exec_effect he
    have hk : k.mnemonic ∉ r.writers := by simpa [Input.mayWrite, hd] using hr
    exact Reg.same_of_lists _ u.inputs rest (e.same hk)
  next => exact Reg.same_of_lists (lineRx b _).rspOut (lineRx b _).inputs rest (lineRx_same b _ hr)
  next => exact Reg.same_of_lists _ _ rest (closeWindow_same _ hr)
  next => simp [Input.mayWrite] at hr -- RESET

end Sys2Proof.Machine

/-! SUPPORT. CRCGEN and FSYNC apart (10_state.md R33, 40_checksum.md R119): putting another value in CRC commutes with every step but
those of CRCGEN and RESET. -/

namespace Sys2Proof.Machine

/-- An outcome with another value in CRC. -/
def withCrc (c : Crc) : Outcome → Outcome
  | .next t => .next { t with crc := c }
  | .fault f => .fault f
  | .refused r => .refused r

section
variable (c : Crc) (s : State)

theorem exec_withCrc {i : Instr} (hi : i.mnemonic ∉ [.CRC_INIT, .CRC_UPDATE, .CRC_READ]) :
    exec i { s with crc := c } = withCrc c (exec i s) := by
  cases i with
  | crcInit | crcUpdate | crcRead => simp [Instr.mnemonic] at hi
  | nop | setStation | setBaud | setMode => rfl
  | txBegin => simp only [exec, execTxBegin]; split_ifs <;> rfl
  | txData => simp only [exec, execTxData]; split_ifs <;> rfl
  | txSend => simp only [exec, execTxSend]; split_ifs <;> rfl
  | close => simp only [exec, execClose]; split_ifs <;> rfl
  | read => simp only [exec, execRead]; split <;> rfl
  | readTx => simp only [exec, execReadTx]; split_ifs <;> rfl
  | readRx k =>
    have hcount : State.rxCount { s with crc := c } = s.rxCount := rfl
    simp only [exec, execReadRx, hcount]
    split_ifs <;> rfl

theorem lineRx_withCrc (b : Octet) : lineRx b { s with crc := c } = { lineRx b s with crc := c } := by
  simp only [lineRx]
  split_ifs <;> rfl

theorem windowClose_withCrc : windowClose { s with crc := c } = withCrc c (windowClose s) := by
  simp only [windowClose]
  split_ifs <;> rfl

end

theorem step_withCrc {s : State} (c : Crc) {i : Input} {rest : List Input} (hi : s.inputs = i :: rest) (hreset : i ≠ .reset)
    (hcrcgen : ∀ w k, i = .command w → decode w = .ok k → k.mnemonic ∉ [.CRC_INIT, .CRC_UPDATE, .CRC_READ]) :
    step { s with crc := c } = withCrc c (step s) := by
  cases i with
  | command w =>
    cases hd : decode w with
    | error why => rw [step_of_decode_error hi hd, step_of_decode_error (s := { s with crc := c }) hi hd]; rfl
    | ok k =>
      rw [step_of_decode_ok hi hd, step_of_decode_ok (s := { s with crc := c }) hi hd]
      exact exec_withCrc c { s with inputs := rest } (hcrcgen w k rfl hd)
  | lineRx b =>
    rw [step_lineRx hi, step_lineRx (s := { s with crc := c }) hi]
    exact congrArg _ (lineRx_withCrc c { s with inputs := rest } b)
  | windowClose =>
    simp only [step, hi, runInput]
    exact windowClose_withCrc c { s with inputs := rest }
  | reset => exact absurd rfl hreset

/-- Settles O42: CRC is not among the registers the step may write, and the step commutes with another value in it; the CRCGEN commands
are their three equations. -/
theorem crcgenAndFsyncAreIndependent : Obligations.CrcgenAndFsyncAreIndependent := by
  refine ⟨fun s t c i rest hi hreset hcrcgen h => ⟨?_, ?_⟩, fun s u k hk hu => ?_⟩
  · refine registersChangeOnlyByTheirWriters s t i rest hi h .CRC ?_
    cases i with
    | command w =>
      cases hd : decode w with
      | error why => simp [Input.mayWrite, hd]
      | ok k =>
        have hk := hcrcgen w k rfl hd
        simp [Input.mayWrite, hd, Reg.writers] at hk ⊢
        exact ⟨hk.1, hk.2.1⟩
    | lineRx | windowClose => rfl
    | reset => exact absurd rfl hreset
  · rw [step_withCrc c hi hreset hcrcgen, h, withCrc]
  · cases k with
    | crcInit => exact ⟨0xFFFF#16, ⟨0x00#8, 0#32⟩, rfl, rfl⟩
    | crcUpdate b => exact ⟨crc16Step s.crc b, ⟨0x00#8, 0#32⟩, rfl, hu ▸ rfl⟩
    | crcRead => exact ⟨s.crc, ⟨0x00#8, zext32 s.crc⟩, rfl, hu ▸ rfl⟩
    | nop | setStation | setBaud | setMode | txBegin | txData | txSend | close | read | readTx | readRx =>
      simp [Instr.mnemonic] at hk

end Sys2Proof.Machine

/-! SUPPORT. What LINE_OUT is extended by, and what a rejected command writes (10_state.md R53, 60_exceptions.md R216). -/

namespace Sys2Proof.Machine

section
variable {s u : State} {i : Instr} {code : RspCode}

theorem Effect.lineOut_cases (e : Effect s i code u) : u.lineOut = s.lineOut ∨
    (i = .txSend ∧ s.state = .assemble ∧ s.closed = false ∧ s.txlen.toNat ≤ 254 ∧ u = s.transmit) := by
  cases e with
  | txSend hs hopen room => exact .inr ⟨rfl, hs, hopen, room, rfl⟩
  | rejected | onlyAnswers | crcInit | crcUpdate | setStation | setBaud | setMode | txBegin | txData | txDataFull | close =>
    exact .inl rfl

/-- FRAME_TOO_LARGE discards the frame. -/
theorem Effect.eq_of_frameTooLarge (e : Effect s i .frameTooLarge u) : u = s.discardFrame := by
  cases e with
  | rejected _ big => exact absurd rfl big
  | txDataFull => rfl

theorem Effect.eq_of_rejected (e : Effect s i code u) (hok : code ≠ .ok) (hbig : code ≠ .frameTooLarge) : u = s := by
  cases e with
  | rejected | onlyAnswers => rfl
  | txDataFull => exact absurd rfl hbig
  | crcInit | crcUpdate | setStation | setBaud | setMode | txBegin | txData | txSend | close => exact absurd rfl hok

end

theorem RspCode.toOctet_eq_frameTooLarge_iff {code : RspCode} : code.toOctet = 0x03#8 ↔ code = .frameTooLarge := by
  cases code <;> decide

/-- An accepted TX_SEND extends LINE_OUT by the frame and its own CRC, low octet first. -/
theorem State.transmit_lineOut_of_crc {s : State} (hbuf : s.txbuf.wf = true) (room : s.txlen.toNat ≤ 254)
    (hcrc : s.txcrc = crc16 s.txFrame) :
    s.transmit.lineOut = s.lineOut ++ s.txFrame ++ crcOctets (crc16 s.txFrame) := by
  rw [transmit_lineOut, txFrame_appendCrc hbuf room, hcrc, List.append_assoc]

/-- Settles O43: only the effect of TX_SEND writes LINE_OUT, with the frame and the CRC of item 1 of 10_state.md R55. -/
theorem onlyTxSendTransmits : Obligations.OnlyTxSendTransmits := by
  intro s t hinv h hline
  obtain ⟨-, rfl⟩ | ⟨w, rest, why, -, -, rfl⟩ | ⟨w, rest, i, hi, hd, he⟩ | ⟨b, rest, -, rfl⟩ | ⟨rest, -, -, rfl⟩ |
    ⟨rest, -, rfl⟩ := step_cases h
  next => exact absurd rfl hline -- no input
  next => exact absurd rfl hline -- an illegal word
  next => -- a command
    obtain ⟨code, data, u, e, -, rfl⟩ := exec_effect he
    obtain hsame | ⟨rfl, hs, hopen, room, rfl⟩ := e.lineOut_cases
    · exact absurd hsame hline
    have hlen := hinv.exchange.assembleLen hs
    have hsent := State.transmit_lineOut_of_crc (s := { s with inputs := rest }) hinv.buffers.tx room
      (hinv.exchange.assembleCrc hs)
    refine ⟨⟨rest, ?_⟩, hs, hopen, State.transmit_state { s with inputs := rest }, s.txFrame, hsent, rfl, ?_, ?_⟩
    · rw [hi, ← encode_of_decode_eq_ok hd]
      rfl
    · rw [State.length_txFrame]; exact hlen.1
    · rw [State.length_txFrame]; exact hlen.2
  next => rw [lineRx_eq] at hline; exact absurd rfl hline -- LINE_RX
  next => exact absurd rfl hline -- WINDOW_CLOSE
  next => exact absurd rfl hline -- RESET

/-- A step on a command word adds one response to a state that, unless the code is OK, is the state before with the word taken off,
or that state with its frame discarded. -/
theorem step_command_writes {s t : State} {w : Word} {rest : List Input} (hi : s.inputs = .command w :: rest)
    (h : step s = .next t) :
    ∃ (code : RspCode) (data : Word) (u : State), t = u.respond code data ∧ u.rspOut = s.rspOut ∧ (code ≠ .ok → data = 0#32) ∧
      (code ≠ .ok → code ≠ .frameTooLarge → u = { s with inputs := rest }) ∧
      (code = .frameTooLarge → u = State.discardFrame { s with inputs := rest }) := by
  cases hd : decode w with
  | error why =>
    rw [step_of_decode_error hi hd] at h
    cases h
    exact ⟨.illegal, 0#32, _, rfl, rfl, fun _ => rfl, fun _ _ => rfl, nofun⟩
  | ok k =>
    rw [step_of_decode_ok hi hd] at h
    obtain ⟨code, data, u, e, hdata, rfl⟩ := exec_effect h
    exact ⟨code, data, u, rfl, e.rspOut_eq, hdata, e.eq_of_rejected, fun hc => (hc ▸ e).eq_of_frameTooLarge⟩

/-- Settles O46: a code other than OK belongs to a rejection, or to the discarded frame; WINDOW_CLOSE is `closeWindow`. -/
theorem rejectionsWriteNothing : Obligations.RejectionsWriteNothing := by
  refine ⟨fun s t w rest octet data hi h hrsp hoctet => ?_, fun s t rest hi h => ?_⟩
  · obtain ⟨code, data', u, rfl, hu, hdata, hrejected, hbig⟩ := step_command_writes hi h
    obtain ⟨rfl, rfl⟩ : code.toOctet = octet ∧ data' = data := by simpa [hu] using hrsp
    have hok : code ≠ .ok := mt RspCode.toOctet_eq_zero_iff.2 hoctet
    obtain rfl := hdata hok
    refine ⟨rfl, fun hne => ?_, fun heq => ?_⟩
    · rw [hrejected hok (mt RspCode.toOctet_eq_frameTooLarge_iff.2 hne)]
      rfl
    · rw [hbig (RspCode.toOctet_eq_frameTooLarge_iff.1 heq)]
      rfl
  · obtain ⟨-, rfl⟩ := (step_windowClose_eq_next_iff hi).1 h
    exact ⟨_, _, _, _, rfl⟩

end Sys2Proof.Machine

/-! SUPPORT. Runs: one command of a program, and any number of octets from the line (43_transport.md R177). -/

namespace Sys2Proof.Machine

/-- One accepted command of a run. -/
theorem run_command {s t : State} {i : Instr} {rest : List Input} (hi : s.inputs = .command (encode i) :: rest)
    (hw : i.wellFormed = true) (h : exec i { s with inputs := rest } = .next t) (k : Nat) :
    Host.Core.run core (k + 1) s = Host.Core.run core k t :=
  run_succ ((step_of_decode_ok hi (decode_encode hw)).trans h) k

/-- The end of a run in another form. -/
theorem run_eq {k : Nat} {s t t' : State} (h : Host.Core.run core k s = .next t) (ht : t = t') :
    Host.Core.run core k s = .next t' := ht ▸ h

/-- The octets of the line, one after another. -/
def receive (octets : List Octet) (s : State) : State := octets.foldl (fun u b => lineRx b u) s

theorem receive_cons (b : Octet) (octets : List Octet) (s : State) :
    receive (b :: octets) s = receive octets (lineRx b s) := rfl

theorem lineRx_with_inputs (b : Octet) (s : State) (l : List Input) :
    lineRx b { s with inputs := l } = { lineRx b s with inputs := l } := by
  simp only [lineRx]
  split_ifs <;> rfl

theorem lineRx_inputs (b : Octet) (s : State) : (lineRx b s).inputs = s.inputs := by rw [lineRx_eq]

/-- A run of LINE_RX is `receive`. -/
theorem run_lineRx {s : State} {octets : List Octet} {rest : List Input} (hi : s.inputs = octets.map Input.lineRx ++ rest) :
    Host.Core.run core octets.length s = .next (receive octets { s with inputs := rest }) := by
  induction octets generalizing s with
  | nil =>
    rw [List.map_nil, List.nil_append] at hi
    subst hi
    exact run_zero s
  | cons b octets ih =>
    exact run_eq ((run_succ (step_lineRx hi) _).trans (ih (lineRx_inputs b _)))
      (congrArg (receive octets) (lineRx_with_inputs b _ rest).symm)

/-- The line writes RXBUF and RXLEN only. -/
theorem receive_eq (octets : List Octet) (s : State) :
    receive octets s = { s with rxbuf := (receive octets s).rxbuf, rxlen := (receive octets s).rxlen } := by
  induction octets generalizing s with
  | nil => rfl
  | cons b octets ih =>
    rw [receive_cons, ih, lineRx_eq]

theorem receive_of_not_rxwait {s : State} (hs : s.state ≠ .rxwait) (octets : List Octet) : receive octets s = s := by
  induction octets with
  | nil => rfl
  | cons b octets ih => rw [receive_cons, lineRx_of_not_rxwait b hs, ih]

section
variable (octets : List Octet) (s : State)

theorem receive_state : (receive octets s).state = s.state := by rw [receive_eq]
theorem receive_delay : (receive octets s).delay = s.delay := by rw [receive_eq]
theorem receive_rspOut : (receive octets s).rspOut = s.rspOut := by rw [receive_eq]
theorem receive_inputs : (receive octets s).inputs = s.inputs := by rw [receive_eq]
theorem receive_txFrame : (receive octets s).txFrame = s.txFrame := by rw [receive_eq]; rfl

end

theorem receive_rxlen_toNat {s : State} (hs : s.state = .rxwait) (hlen : s.rxlen.toNat ≤ 257) (octets : List Octet) :
    (receive octets s).rxlen.toNat = min (s.rxlen.toNat + octets.length) 257 := by
  induction octets generalizing s with
  | nil => exact (min_eq_left hlen).symm
  | cons b octets ih =>
    have hnext := lineRx_rxlen_toNat b hs hlen
    rw [receive_cons, ih ((lineRx_state b s).trans hs) (by omega), hnext, List.length_cons]
    omega

/-- Octets that fit the window are appended to those received. -/
theorem receive_rxFrame {s : State} (hbuf : s.BuffersCanonical) (hs : s.state = .rxwait) (octets : List Octet)
    (hlen : s.rxlen.toNat + octets.length ≤ 256) : (receive octets s).rxFrame = s.rxFrame ++ octets := by
  induction octets generalizing s with
  | nil => exact (List.append_nil _).symm
  | cons b octets ih =>
    rw [List.length_cons] at hlen
    have hnext := lineRx_rxlen_toNat b hs (by omega)
    rw [receive_cons, ih (buffersCanonical_kept.lineRx s b hbuf) ((lineRx_state b s).trans hs) (by omega),
      State.rxFrame_lineRx_of_room hbuf.rx b hs (by omega), List.append_assoc, List.singleton_append]

/-- A window: the octets of the line, then its end. -/
theorem run_window {s : State} {octets : List Octet} {rest : List Input} (hs : s.state = .rxwait)
    (hi : s.inputs = octets.map Input.lineRx ++ .windowClose :: rest) :
    Host.Core.run core (octets.length + 1) s =
      .next { (receive octets { s with inputs := .windowClose :: rest }).closeWindow with inputs := rest } := by
  refine (run_add (run_lineRx hi) 1).trans ((run_succ ((step_windowClose_eq_next_iff ?_).2 ⟨?_, rfl⟩) 0).trans (run_zero _))
  · exact receive_inputs octets _
  · exact (receive_state octets _).trans hs

/-- Settles O59: outside a window the line changes nothing. -/
theorem lineOctetsAfterTheRunChangeNothing : Obligations.LineOctetsAfterTheRunChangeNothing := by
  intro s octets hended hi
  have hs : s.state ≠ .rxwait := by
    simp only [State.runEnded, Bool.and_eq_true, decide_eq_true_eq] at hended
    exact hended.2
  exact run_eq (run_lineRx (rest := []) (by rw [hi, List.append_nil])) 
    (receive_of_not_rxwait (s := { s with inputs := [] }) hs octets)

/-- Settles O55: WINDOW_CLOSE records a check, which is an outcome, and RXLEN is what the line left. -/
theorem anOpenWindowEndsWithAnOutcome : Obligations.AnOpenWindowEndsWithAnOutcome := by
  intro s octets rest hinv hs hi
  exact ⟨_, run_window hs hi, rfl, State.checkResponse_res_ne_none _, rfl,
    receive_rspOut octets { s with inputs := .windowClose :: rest },
    receive_rxlen_toNat (s := { s with inputs := .windowClose :: rest }) hs hinv.exchange.rxlenBound octets⟩

/-! ### The echo of a request -/

/-- The check of a response equal to the request. -/
theorem State.checkResponse_of_echo {s : State} (hadu : s.HoldsAdu) (hlen : s.rxlen = s.txlen)
    (hrx : s.rxbuf.octets 0 s.txlen.toNat = s.txFrame) :
    s.checkResponse = ⟨.ok, 0x00#8, s.txlen.toNat, s.txcrc⟩ := by
  obtain ⟨hlo, hhi⟩ := hadu.len
  have hread {a : Nat} (ha : a < s.txlen.toNat) : s.rxbuf.read a = s.txbuf.read a := Memory.read_of_octets_eq hrx ha
  have hbody : s.rxbuf.octets 0 (s.txlen.toNat - 2) = s.txbuf.octets 0 (s.txlen.toNat - 2) :=
    Memory.octets_congr fun a ha => hread (by omega)
  have hvalid : s.rxbuf.octets 0 s.txlen.toNat = s.rxbuf.octets 0 (s.txlen.toNat - 2) ++ crcOctets s.txcrc := by
    rw [hrx, hbody]
    exact (Memory.octets_eq_append_pair_iff _ (by omega) _ _).2 ⟨hadu.lo, hadu.hi⟩
  have hclass : s.classify = .frame .echo s.txlen.toNat := by
    rw [← hlen] at hlo hhi ⊢
    exact classify_of_echo (by omega) hhi (hread (hlen ▸ by omega))
  have hverdict : s.verdict .echo s.txlen.toNat = (.ok, 0x00#8) := by
    rw [verdict_eq_ite, if_neg (Nat.not_lt.2 hlo), if_neg (not_not.2 (hread (by omega))), hbody, ← hadu.crc, ← hbody,
      if_neg (not_not.2 hvalid), accepted]
  rw [checkResponse_of_frame hclass, hverdict, hbody, ← hadu.crc]

/-- An empty window that receives octets it has room for holds exactly them. -/
theorem receive_into_empty {s : State} (hbuf : s.BuffersCanonical) (hs : s.state = .rxwait) (h0 : s.rxlen.toNat = 0)
    {octets : List Octet} (hlen : octets.length ≤ 256) :
    (receive octets s).rxlen.toNat = octets.length ∧ (receive octets s).rxbuf.octets 0 octets.length = octets := by
  have hrxlen : (receive octets s).rxlen.toNat = octets.length := by
    rw [receive_rxlen_toNat hs (by omega)]
    omega
  have hcount : (receive octets s).rxCount = octets.length := by
    rw [State.rxCount, hrxlen]
    exact min_eq_left hlen
  have hempty : s.rxFrame = [] := by simp [State.rxFrame, State.rxCount, h0]
  have hframe := receive_rxFrame hbuf hs octets (by omega)
  rw [hempty, List.nil_append, State.rxFrame, hcount] at hframe
  exact ⟨hrxlen, hframe⟩

/-- A window that receives the request's own octets accepts them. -/
theorem closeWindow_receive_request {s : State} (hinv : s.Inv) (hs : s.state = .rxwait) (h0 : s.rxlen = 0#9) :
    (receive s.txFrame s).rxbuf.octets 0 s.txlen.toNat = s.txFrame ∧
      (receive s.txFrame s).closeWindow.result = .ok ∧ (receive s.txFrame s).closeWindow.exc = 0x00#8 ∧
      (receive s.txFrame s).closeWindow.framelen = s.txlen := by
  have hadu := hinv.exchange.holdsAdu hs
  have hlen : s.txFrame.length ≤ 256 := by
    rw [State.length_txFrame]
    exact hadu.len.2
  obtain ⟨hrxlen, hrx⟩ := receive_into_empty hinv.buffers hs (by rw [h0]; rfl) hlen
  rw [State.length_txFrame] at hrxlen hrx
  have hcheck : (receive s.txFrame s).checkResponse = ⟨.ok, 0x00#8, s.txlen.toNat, s.txcrc⟩ := by
    have hrxlen := BitVec.eq_of_toNat_eq hrxlen
    have hu := receive_eq s.txFrame s
    generalize receive s.txFrame s = u at hrxlen hrx hu ⊢
    rw [hu] at hrx hrxlen ⊢
    exact State.checkResponse_of_echo { hadu with } hrxlen hrx
  refine ⟨hrx, congrArg CheckResult.res hcheck, congrArg CheckResult.exc hcheck, ?_⟩
  rw [State.closeWindow_framelen, hcheck, BitVec.ofNat_toNat, BitVec.setWidth_eq]

/-- Settles O54: the line leaves the request's own octets in RXBUF, and the check accepts them. -/
theorem echoedAduIsAccepted : Obligations.EchoedAduIsAccepted := by
  intro s rest hinv hs h0 hi
  have hrun := run_window hs hi
  rw [Memory.length_octets] at hrun
  obtain ⟨hrx, hresult, hexc, hframelen⟩ :=
    closeWindow_receive_request (hinv.with_lists s.rspOut (.windowClose :: rest)) hs h0
  refine ⟨_, hrun, hresult, hexc, rfl, hframelen, rfl, ?_, ?_⟩
  · exact (congrArg (fun n : BitVec 9 => Memory.octets _ 0 n.toNat) hframelen).trans hrx
  · exact receive_txFrame s.txFrame { s with inputs := .windowClose :: rest }

/-! ### Pseudo-instructions -/

/-- A number is its high and its low half. -/
theorem halves_toNat (v : BitVec 64) : (v.extractLsb' 32 32).toNat * 2 ^ 32 + (v.extractLsb' 0 32).toNat = v.toNat := by
  have hv := v.isLt
  simp only [BitVec.extractLsb'_toNat, Nat.shiftRight_eq_div_pow]
  omega

/-- READ DELAY_HI after octets of the line. -/
theorem run_lineRx_read_delayHi {s : State} {octets : List Octet} {rest : List Input}
    (hi : s.inputs = octets.map Input.lineRx ++ .command (encode (.read RegName.DELAY_HI.number)) :: rest) :
    ∃ t, Host.Core.run core (octets.length + 1) s = .next t ∧
      t.rspOut = s.rspOut ++ [⟨0x00#8, s.delay.extractLsb' 32 32⟩] ∧ t.delay = s.delay := by
  refine ⟨_, (run_add (run_lineRx hi) 1).trans ((run_command (receive_inputs octets _) (by decide)
    (exec_read_number _ .DELAY_HI) 0).trans (run_zero _)), ?_, receive_delay octets _⟩
  rw [State.respond_rspOut, State.regval, receive_rspOut, receive_delay]
  rfl

/-- Settles O58: the two halves of one register, which the line does not write. -/
theorem readDelayGivesBothHalves : Obligations.ReadDelayGivesBothHalves := by
  intro s octets rest hi
  have hlo := run_command hi (by decide) (exec_read_number _ .DELAY_LO) (octets.length + 1)
  obtain ⟨t, hrun, hrsp, hdelay⟩ := run_lineRx_read_delayHi
    (s := State.respond { s with inputs := octets.map Input.lineRx ++ _ :: rest } .ok (s.delay.extractLsb' 0 32)) rfl
  exact ⟨t, _, _, hlo.trans hrun, hrsp.trans (List.append_assoc ..), hdelay, halves_toNat s.delay⟩

/-- One response more than `n` like ones, told from the front. -/
theorem append_replicate_succ (l : List Response) (n : Nat) (r : Response) :
    l ++ List.replicate (n + 1) r = l ++ [r] ++ List.replicate n r := by
  rw [List.replicate_succ, List.append_cons]

/-- A run of CRC_UPDATE folds its octets into CRC. -/
theorem run_crcUpdate {s : State} {octets : List Octet} {rest : List Input}
    (hi : s.inputs = octets.map (fun b => .command (encode (.crcUpdate b))) ++ rest) :
    Host.Core.run core octets.length s =
      .next { s with inputs := rest, crc := octets.foldl crc16Step s.crc,
                     rspOut := s.rspOut ++ List.replicate octets.length ⟨0x00#8, 0#32⟩ } := by
  induction octets generalizing s with
  | nil =>
    rw [List.map_nil, List.nil_append] at hi
    subst hi
    rw [List.length_nil, List.replicate_zero, List.append_nil]
    exact run_zero s
  | cons b octets ih =>
    refine run_eq ((run_command hi rfl ((Effect.crcUpdate b).exec_eq (by simp [Instr.mnemonic])) _).trans (ih rfl)) ?_
    rw [List.length_cons, append_replicate_succ]
    rfl

/-- Settles O57: CRC_INIT, the run of CRC_UPDATE, and CRC_READ. -/
theorem crcBlockAnswersTheChecksum : Obligations.CrcBlockAnswersTheChecksum := by
  intro s octets rest hi
  simp only [Asm.crcBlock, List.map_append, List.map_cons, List.map_map, List.map_nil, List.cons_append, List.append_assoc] at hi
  refine run_eq ((run_command hi rfl (Effect.crcInit.exec_eq (by decide)) _).trans ((run_add (run_crcUpdate rfl) 1).trans
    ((run_command rfl rfl (exec_crcRead _) 0).trans (run_zero _)))) ?_
  rw [append_replicate_succ]
  rfl

end Sys2Proof.Machine

/-! SUPPORT. A frame under assembly by its octets (41_frame_codec.md R131 to R133): TX_BEGIN starts one, TX_DATA appends to it, TX_SEND
transmits it with its CRC (43_transport.md R174). -/

namespace Sys2Proof.Machine

/-- The frame under assembly on an open channel is `body`, and TXCRC is its CRC. -/
structure State.Assembling (s : State) (body : List Octet) : Prop where
  phase : s.state = .assemble
  isOpen : s.closed = false
  canonical : s.BuffersCanonical
  frame : s.txFrame = body
  crc : s.txcrc = crc16 body

namespace State.Assembling

section
variable {s : State} {body : List Octet}

theorem txlen_toNat (h : s.Assembling body) : s.txlen.toNat = body.length := by rw [← length_txFrame, h.frame]

theorem with_lists (h : s.Assembling body) (responses : List Response) (pending : List Input) :
    State.Assembling { s with rspOut := responses, inputs := pending } body :=
  { h with canonical := ⟨h.canonical.tx, h.canonical.rx⟩ }

theorem respond (h : s.Assembling body) (code : RspCode) (data : Word) : (s.respond code data).Assembling body :=
  h.with_lists _ s.inputs

theorem of_beginFrame (hbuf : s.BuffersCanonical) (hs : s.state ≠ .rxwait) (hopen : s.closed = false) (fc : Octet) :
    (s.beginFrame fc).Assembling [s.station, fc] where
  phase := rfl
  isOpen := hopen
  canonical := buffersCanonical_kept.effect _ _ _ _ (.txBegin fc hs) hbuf
  frame := txFrame_beginFrame hbuf.tx fc
  crc := rfl

/-- What TX_DATA needs of a frame with room for one more octet. -/
theorem txData (h : s.Assembling body) (hroom : body.length < 254) (b : Octet) :
    Effect s (.txData b) .ok (s.appendData b) :=
  .txData b h.phase (by rw [h.txlen_toNat]; omega) (by rw [h.txlen_toNat]; omega)

theorem appendData (h : s.Assembling body) (hroom : body.length < 254) (b : Octet) :
    (s.appendData b).Assembling (body ++ [b]) where
  phase := h.phase
  isOpen := h.isOpen
  canonical := buffersCanonical_kept.effect _ _ _ _ (h.txData hroom b) h.canonical
  frame := by rw [txFrame_appendData h.canonical.tx b (by rw [h.txlen_toNat]; omega), h.frame]
  crc := by rw [appendData_txcrc, h.crc, crc16_snoc]

end

end State.Assembling

/-- A run of TX_DATA appends its octets while the frame has room. -/
theorem run_txData {s : State} {body data : List Octet} {rest : List Input} (h : s.Assembling body)
    (hroom : body.length + data.length ≤ 254)
    (hi : s.inputs = data.map (fun b => .command (encode (.txData b))) ++ rest) :
    ∃ t : State, Host.Core.run core data.length s = .next t ∧ t.Assembling (body ++ data) ∧ t.inputs = rest ∧
      t.lineOut = s.lineOut ∧ t.rspOut = s.rspOut ++ List.replicate data.length ⟨0x00#8, 0#32⟩ := by
  induction data generalizing s body with
  | nil => exact ⟨s, run_zero s, by rwa [List.append_nil], hi, rfl, (List.append_nil _).symm⟩
  | cons b data ih =>
    rw [List.length_cons] at hroom
    have htaken := h.with_lists s.rspOut (data.map (fun b => .command (encode (.txData b))) ++ rest)
    have hexec := (htaken.txData (by omega) b).exec_eq (by simp [Instr.mnemonic])
    have hnext := (htaken.appendData (by omega) b).respond .ok 0#32
    obtain ⟨t, hrun, ht, hinputs, hline, hrsp⟩ := ih hnext (by rw [List.length_append, List.length_singleton]; omega) rfl
    refine ⟨t, (run_command hi rfl hexec _).trans hrun, by rwa [List.append_cons], hinputs, hline, ?_⟩
    exact hrsp.trans (append_replicate_succ _ _ _).symm

/-- An accepted TX_SEND of a run. -/
theorem run_txSend {s : State} {rest : List Input} (hs : s.state = .assemble) (hopen : s.closed = false)
    (hroom : s.txlen.toNat ≤ 254) (hi : s.inputs = .command (encode .txSend) :: rest) (k : Nat) :
    Host.Core.run core (k + 1) s =
      Host.Core.run core k (State.respond (State.transmit { s with inputs := rest }) .ok 0#32) :=
  run_command hi rfl ((Effect.txSend (s := { s with inputs := rest }) hs hopen hroom).exec_eq (by decide)) k

/-- TX_SEND on a frame with room for its CRC, as the end of a run. -/
theorem run_txSend_of_assembling {s : State} {body : List Octet} {rest : List Input} (h : s.Assembling body)
    (hroom : body.length ≤ 254) (hi : s.inputs = .command (encode .txSend) :: rest) :
    ∃ t : State, Host.Core.run core 1 s = .next t ∧
      t.lineOut = s.lineOut ++ (body ++ crcOctets (crc16 body)) ∧ t.txFrame = body ++ crcOctets (crc16 body) ∧
      t.txlen.toNat = body.length + 2 ∧ t.state = .rxwait ∧ t.inputs = rest ∧ t.rspOut = s.rspOut ++ [⟨0x00#8, 0#32⟩] := by
  let u : State := { s with inputs := rest }
  have hu : u.Assembling body := h.with_lists s.rspOut rest
  have hlen : u.txlen.toNat ≤ 254 := hu.txlen_toNat ▸ hroom
  have hadu : u.appendCrc.txFrame = body ++ crcOctets (crc16 body) := by
    rw [State.txFrame_appendCrc hu.canonical.tx hlen, hu.frame, hu.crc]
  refine ⟨_, (run_txSend h.phase h.isOpen hlen hi 0).trans (run_zero _), ?_, ?_, ?_, u.transmit_state, u.transmit_inputs,
    congrArg (· ++ _) u.transmit_rspOut⟩
  · exact u.transmit_lineOut.trans (congrArg _ hadu)
  · exact u.transmit_txFrame.trans hadu
  · exact (State.transmit_txlen_toNat hlen).trans (congrArg (· + 2) h.txlen_toNat)

/-- Settles O53: the frame after TX_BEGIN, after the run of TX_DATA, and the ADU TX_SEND transmits. -/
theorem txFrameEmitsTheEncodedAdu : Obligations.TxFrameEmitsTheEncodedAdu := by
  intro s fc data rest hbuf hs hopen hlen hi
  simp only [Asm.txFrame, List.map_append, List.map_cons, List.map_map, List.map_nil, List.cons_append, List.append_assoc] at hi
  let pending : List Input := data.map (fun b => .command (encode (.txData b))) ++ .command (encode .txSend) :: rest
  have hbegin := (Effect.txBegin (s := { s with inputs := pending }) fc hs).exec_eq (by simp [Instr.mnemonic])
  have hframe := State.Assembling.of_beginFrame (s := { s with inputs := pending }) ⟨hbuf.tx, hbuf.rx⟩ hs hopen fc
  have hbody : [s.station, fc].length + data.length ≤ 254 := by
    change 2 + data.length ≤ 254
    omega
  have hroom : ([s.station, fc] ++ data).length ≤ 254 := by rwa [List.length_append]
  obtain ⟨u, hrun, hu, hinputs, hline, hrsp⟩ := run_txData (hframe.respond .ok 0#32) (data := data) hbody rfl
  obtain ⟨t, hsend, hline', hadu, hlen', hstate, hrest, hrsp'⟩ := run_txSend_of_assembling hu hroom hinputs
  refine ⟨t, (run_command hi rfl hbegin (data.length + 1)).trans ((run_add hrun 1).trans hsend), ?_, hadu, ?_, hstate, hrest,
    ?_⟩
  · rw [hline', hline]
    rfl
  · rw [hlen']
    simp
  · rw [hrsp', hrsp, append_replicate_succ, List.replicate_succ', ← List.append_assoc]
    rfl

/-- READ_RX in an open window answers STATE_ERR and writes nothing. -/
theorem run_readRx_refused {s : State} {k : Octet} {rest : List Input} (hs : s.state = .rxwait)
    (hi : s.inputs = .command (encode (.readRx k)) :: rest) :
    Host.Core.run core 1 s = .next (State.reject { s with inputs := rest } .stateErr) :=
  (run_command hi rfl (exec_readRx_of_rxwait hs) 0).trans (run_zero _)

/-- Settles O56: the window TX_SEND opens refuses READ_RX. -/
theorem readRxRightAfterTxSendIsRefused : Obligations.ReadRxRightAfterTxSendIsRefused := by
  intro s k rest hinv hs hopen hi
  have hsend := run_txSend hs hopen (hinv.exchange.assembleLen hs).2 hi 1
  let u : State := { s with inputs := .command (encode (.readRx k)) :: rest }
  have hread : Host.Core.run core 1 (u.transmit.respond .ok 0#32) = _ :=
    run_readRx_refused u.transmit_state u.transmit_inputs
  exact ⟨_, hsend.trans hread, by simp [u, RspCode.toOctet]⟩

end Sys2Proof.Machine
